-- ==== Sys2Proof/Word.lean ====
section
/-!
DEFINITION. The word types of the block and their plainest arithmetic (spec/00_scope.md R10, R11).
-/

namespace Sys2Proof

/-- A register value or an address: 64 bits (R10). -/
abbrev Word := BitVec 64

/-- One byte of memory or of the output stream. -/
abbrev Byte := BitVec 8

/-- A register number x0..x31 (R17): the 5-bit register field. -/
abbrev Reg := BitVec 5

/-- A primed register field of a compressed form (R63): 3 bits, naming x8..x15. -/
abbrev CReg := BitVec 3

/-- A 16-bit instruction parcel (R57). -/
abbrev Parcel := BitVec 16

/-- The raw word of a micro-op: 32 bits, a 16-bit parcel zero-extended (R26). -/
abbrev InstWord := BitVec 32

/-- An instruction width (R10): 16 or 32 bits. -/
inductive Len where
  /-- a 16-bit instruction: 2 bytes -/
  | two
  /-- a 32-bit instruction: 4 bytes -/
  | four
deriving DecidableEq, Repr

/-- The width in bytes: 2 or 4 (R26 field `len`). -/
def Len.bytes : Len → Nat
  | .two => 2
  | .four => 4

/-- The width as a 64-bit value, for additions to an address. -/
def Len.word : Len → Word
  | .two => 2
  | .four => 4

end Sys2Proof
end

