-- ==== Sys2Proof/Config.lean ====
section
/-!
DEFINITION. What a run fixes before its first cycle: the configuration record (spec/00_scope.md R8), the platform
parameters of the launch (R9), and the host, which is a parameter of the run (spec/60_exceptions.md R251).
The checks of R240 are in Machine/Launch.lean.
-/

namespace Sys2Proof

/-- The predictor kinds of R124, and every other name a caller may give, which R240 check 3 rejects. -/
inductive PredictorKind where
  | static
  | bimodal
  | gshare
  /-- a kind that is none of the three (R240 check 3 names `predictor`) -/
  | unsupported
deriving DecidableEq, Repr

/-- The initial value of every counter where the caller gives none, `2^(N-1) - 1`: 1 when `N = 2` (R8). -/
def Config.defaultInitCounter (counterBits : Nat) : Nat := 2 ^ (counterBits - 1) - 1

/-- The configuration record `cfg` of R8, each field with its default there; `W` and `budget` have none. The
fetch-buffer ratio `R` is the rational `ratioNum / ratioDen`. -/
structure Config where
  /-- `W`: lanes per latch -/
  width : Nat
  /-- the numerator of `R` -/
  ratioNum : Nat := 1
  /-- the denominator of `R` -/
  ratioDen : Nat := 1
  predictor : PredictorKind := .bimodal
  /-- `N`: the counter width in bits -/
  counterBits : Nat := 2
  /-- `TB`: log2 of the counter-table size and the global-history length -/
  tableBits : Nat := 10
  /-- the initial value of every counter; its default follows `N` -/
  initCounter : Nat := Config.defaultInitCounter counterBits
  /-- early-branch-resolution toggle -/
  ebr : Bool := false
  /-- dynamic-branch-fetching toggle; only `false` is admitted (R241) -/
  dbf : Bool := false
  /-- cascaded-execution toggle -/
  cascade : Bool := false
  /-- macro-op-fusion toggle -/
  fusion : Bool := false
  /-- return-address-stack toggle -/
  ras : Bool := false
  /-- `RASD`: the return-address-stack depth -/
  rasDepth : Nat := 16
  /-- tandem-verification toggle; no effect on the block (R255) -/
  tandem : Bool := false
  /-- the max-cycle budget (R72) -/
  budget : Nat
deriving DecidableEq, Repr

/-- Which host answers an ECALL (R251): the reference host of R252, or any other host. -/
inductive HostKind where
  /-- the reference host `TestHost` of R252 -/
  | testHost
  /-- some other host of the caller's: what it answers is `Config.externalHost`, of which nothing is known -/
  | external
deriving DecidableEq, Repr

/-- The platform parameters of the launch that the machine keeps reading (R9, R38). `MEM_BASE` and the host have
defaults (R38, R10). -/
structure Platform where
  /-- `MEM_BASE` -/
  memBase : Nat := 0
  /-- `MEM_SIZE`, in bytes -/
  memSize : Nat
  /-- `ENTRY`, the address of the first fetch -/
  entry : Word
  /-- `Host` -/
  host : HostKind := .testHost
deriving DecidableEq, Repr

/-- The four verdicts of a host (R251). -/
inductive HostVerdict where
  | continue
  | exit
  | fault (addr : Word)
  | refuse
deriving DecidableEq, Repr, Inhabited

/-- What a host returns (R251), as data: its verdict, the registers and memory bytes it writes, in order, and the
bytes it appends to the output stream. -/
structure HostReply where
  verdict : HostVerdict
  regWrites : List (Reg × Word)
  memWrites : List Host.Cell
  appended : List Byte
deriving DecidableEq, Repr, Inhabited

/-- A FREE VALUE (log entry 2): what a host other than the reference host answers, as an uninterpreted function of
the three arguments R251 gives it, `host(x, M, out)`. It has no body: nothing can be proved of a particular answer. -/
opaque Config.externalHost : List Word → List Host.Cell → List Byte → HostReply

/-- The fields a `ConfigurationError` names (R240), by the spec's own names for them. -/
inductive ConfigField where
  /-- `W` -/
  | w
  /-- `R` -/
  | r
  | predictor
  /-- `N` -/
  | n
  /-- `TB` -/
  | tb
  | initCounter
  | dbf
  /-- `RASD` -/
  | rasd
  /-- `MEM_SIZE`, for both parts of check 9 (log entry 6) -/
  | memSize
  /-- `ENTRY` -/
  | entry
deriving DecidableEq, Repr

/-- The configuration of `State.reset`: the defaults of R8. `W` and `budget` have no default there; `W = 1` is this
model's choice and `budget = 2000` is the convention of spec/95_test_vectors.md (DESIGN CHOICE, log entry 3). -/
def Config.atReset : Config where
  width := 1
  budget := 2000

/-- The platform of `State.reset`: the conventions of spec/95_test_vectors.md, `MEM_BASE = 0` (the default of R38),
`MEM_SIZE = 0x10000`, `ENTRY = 0` and the reference host (DESIGN CHOICE, log entry 3). -/
def Platform.atReset : Platform where
  memSize := 0x10000
  entry := 0

end Sys2Proof
end

