-- ==== Sys2Proof/Syntax.lean ====
section
/-!
DEFINITION. The instructions of the block as syntax: one constructor per row of spec/opcode_table.json, in its order.

An operand is the value its rule names, at the width its encoding gives it: a branch or jump offset and a scaled
compressed immediate are the whole byte offset, low zero bits included (spec/30_encoding.md R59 and
spec/48_compressed.md), and `rdp`, `rs1p`, `rs2p` are primed fields naming x8..x15 (R63). Which values an encoding
admits is WellFormed.lean's.
-/

namespace Sys2Proof

/-- An instruction of spec/opcode_table.json. -/
inductive Instr where
  /-- LUI (R136) -/
  | lui (rd : Reg) (imm20 : BitVec 20)
  /-- AUIPC (R137) -/
  | auipc (rd : Reg) (imm20 : BitVec 20)
  /-- ADDI (R138) -/
  | addi (rd rs1 : Reg) (imm : BitVec 12)
  /-- SLTI (R139) -/
  | slti (rd rs1 : Reg) (imm : BitVec 12)
  /-- SLTIU (R140) -/
  | sltiu (rd rs1 : Reg) (imm : BitVec 12)
  /-- XORI (R141) -/
  | xori (rd rs1 : Reg) (imm : BitVec 12)
  /-- ORI (R142) -/
  | ori (rd rs1 : Reg) (imm : BitVec 12)
  /-- ANDI (R143) -/
  | andi (rd rs1 : Reg) (imm : BitVec 12)
  /-- SLLI (R144) -/
  | slli (rd rs1 : Reg) (shamt : BitVec 6)
  /-- SRLI (R145) -/
  | srli (rd rs1 : Reg) (shamt : BitVec 6)
  /-- SRAI (R146) -/
  | srai (rd rs1 : Reg) (shamt : BitVec 6)
  /-- ADD (R147) -/
  | add (rd rs1 rs2 : Reg)
  /-- SUB (R148) -/
  | sub (rd rs1 rs2 : Reg)
  /-- SLL (R149) -/
  | sll (rd rs1 rs2 : Reg)
  /-- SLT (R150) -/
  | slt (rd rs1 rs2 : Reg)
  /-- SLTU (R151) -/
  | sltu (rd rs1 rs2 : Reg)
  /-- XOR (R152) -/
  | xor (rd rs1 rs2 : Reg)
  /-- SRL (R153) -/
  | srl (rd rs1 rs2 : Reg)
  /-- SRA (R154) -/
  | sra (rd rs1 rs2 : Reg)
  /-- OR (R155) -/
  | or (rd rs1 rs2 : Reg)
  /-- AND (R156) -/
  | and (rd rs1 rs2 : Reg)
  /-- ADDIW (R157) -/
  | addiw (rd rs1 : Reg) (imm : BitVec 12)
  /-- SLLIW (R158) -/
  | slliw (rd rs1 : Reg) (shamt : BitVec 5)
  /-- SRLIW (R159) -/
  | srliw (rd rs1 : Reg) (shamt : BitVec 5)
  /-- SRAIW (R160) -/
  | sraiw (rd rs1 : Reg) (shamt : BitVec 5)
  /-- ADDW (R161) -/
  | addw (rd rs1 rs2 : Reg)
  /-- SUBW (R162) -/
  | subw (rd rs1 rs2 : Reg)
  /-- SLLW (R163) -/
  | sllw (rd rs1 rs2 : Reg)
  /-- SRLW (R164) -/
  | srlw (rd rs1 rs2 : Reg)
  /-- SRAW (R165) -/
  | sraw (rd rs1 rs2 : Reg)
  /-- MUL (R166) -/
  | mul (rd rs1 rs2 : Reg)
  /-- MULH (R167) -/
  | mulh (rd rs1 rs2 : Reg)
  /-- MULHSU (R168) -/
  | mulhsu (rd rs1 rs2 : Reg)
  /-- MULHU (R169) -/
  | mulhu (rd rs1 rs2 : Reg)
  /-- DIV (R170) -/
  | div (rd rs1 rs2 : Reg)
  /-- DIVU (R171) -/
  | divu (rd rs1 rs2 : Reg)
  /-- REM (R172) -/
  | rem (rd rs1 rs2 : Reg)
  /-- REMU (R173) -/
  | remu (rd rs1 rs2 : Reg)
  /-- MULW (R174) -/
  | mulw (rd rs1 rs2 : Reg)
  /-- DIVW (R175) -/
  | divw (rd rs1 rs2 : Reg)
  /-- DIVUW (R176) -/
  | divuw (rd rs1 rs2 : Reg)
  /-- REMW (R177) -/
  | remw (rd rs1 rs2 : Reg)
  /-- REMUW (R178) -/
  | remuw (rd rs1 rs2 : Reg)
  /-- JAL (R179) -/
  | jal (rd : Reg) (offset : BitVec 21)
  /-- JALR (R180) -/
  | jalr (rd rs1 : Reg) (imm : BitVec 12)
  /-- BEQ (R181) -/
  | beq (rs1 rs2 : Reg) (offset : BitVec 13)
  /-- BNE (R182) -/
  | bne (rs1 rs2 : Reg) (offset : BitVec 13)
  /-- BLT (R183) -/
  | blt (rs1 rs2 : Reg) (offset : BitVec 13)
  /-- BGE (R184) -/
  | bge (rs1 rs2 : Reg) (offset : BitVec 13)
  /-- BLTU (R185) -/
  | bltu (rs1 rs2 : Reg) (offset : BitVec 13)
  /-- BGEU (R186) -/
  | bgeu (rs1 rs2 : Reg) (offset : BitVec 13)
  /-- LB (R187) -/
  | lb (rd rs1 : Reg) (imm : BitVec 12)
  /-- LH (R188) -/
  | lh (rd rs1 : Reg) (imm : BitVec 12)
  /-- LW (R189) -/
  | lw (rd rs1 : Reg) (imm : BitVec 12)
  /-- LD (R190) -/
  | ld (rd rs1 : Reg) (imm : BitVec 12)
  /-- LBU (R191) -/
  | lbu (rd rs1 : Reg) (imm : BitVec 12)
  /-- LHU (R192) -/
  | lhu (rd rs1 : Reg) (imm : BitVec 12)
  /-- LWU (R193) -/
  | lwu (rd rs1 : Reg) (imm : BitVec 12)
  /-- SB (R194) -/
  | sb (rs2 rs1 : Reg) (imm : BitVec 12)
  /-- SH (R195) -/
  | sh (rs2 rs1 : Reg) (imm : BitVec 12)
  /-- SW (R196) -/
  | sw (rs2 rs1 : Reg) (imm : BitVec 12)
  /-- SD (R197) -/
  | sd (rs2 rs1 : Reg) (imm : BitVec 12)
  /-- FENCE (R198); every field is ignored (R66) -/
  | fence (fm pred succ : BitVec 4) (rs1 rd : Reg)
  /-- FENCE.I (R199); every field is ignored (R66) -/
  | fenceI (imm : BitVec 12) (rs1 rd : Reg)
  /-- ECALL (R200) -/
  | ecall
  /-- EBREAK (R201) -/
  | ebreak
  /-- C.ADDI4SPN (R205) -/
  | cAddi4spn (rdp : CReg) (nzuimm : BitVec 10)
  /-- C.LW (R206) -/
  | cLw (rdp rs1p : CReg) (uimm : BitVec 7)
  /-- C.LD (R207) -/
  | cLd (rdp rs1p : CReg) (uimm : BitVec 8)
  /-- C.SW (R208) -/
  | cSw (rs2p rs1p : CReg) (uimm : BitVec 7)
  /-- C.SD (R209) -/
  | cSd (rs2p rs1p : CReg) (uimm : BitVec 8)
  /-- C.NOP (R210) -/
  | cNop (imm : BitVec 6)
  /-- C.ADDI (R211) -/
  | cAddi (rd : Reg) (imm : BitVec 6)
  /-- C.ADDIW (R212) -/
  | cAddiw (rd : Reg) (imm : BitVec 6)
  /-- C.LI (R213) -/
  | cLi (rd : Reg) (imm : BitVec 6)
  /-- C.ADDI16SP (R214) -/
  | cAddi16sp (nzimm : BitVec 10)
  /-- C.LUI (R215) -/
  | cLui (rd : Reg) (nzimm : BitVec 18)
  /-- C.SRLI (R216) -/
  | cSrli (rdp : CReg) (shamt : BitVec 6)
  /-- C.SRAI (R217) -/
  | cSrai (rdp : CReg) (shamt : BitVec 6)
  /-- C.ANDI (R218) -/
  | cAndi (rdp : CReg) (imm : BitVec 6)
  /-- C.SUB (R219) -/
  | cSub (rdp rs2p : CReg)
  /-- C.XOR (R220) -/
  | cXor (rdp rs2p : CReg)
  /-- C.OR (R221) -/
  | cOr (rdp rs2p : CReg)
  /-- C.AND (R222) -/
  | cAnd (rdp rs2p : CReg)
  /-- C.SUBW (R223) -/
  | cSubw (rdp rs2p : CReg)
  /-- C.ADDW (R224) -/
  | cAddw (rdp rs2p : CReg)
  /-- C.J (R225) -/
  | cJ (offset : BitVec 12)
  /-- C.BEQZ (R226) -/
  | cBeqz (rs1p : CReg) (offset : BitVec 9)
  /-- C.BNEZ (R227) -/
  | cBnez (rs1p : CReg) (offset : BitVec 9)
  /-- C.SLLI (R228) -/
  | cSlli (rd : Reg) (shamt : BitVec 6)
  /-- C.LWSP (R229) -/
  | cLwsp (rd : Reg) (uimm : BitVec 8)
  /-- C.LDSP (R230) -/
  | cLdsp (rd : Reg) (uimm : BitVec 9)
  /-- C.JR (R231) -/
  | cJr (rs1 : Reg)
  /-- C.MV (R232) -/
  | cMv (rd rs2 : Reg)
  /-- C.EBREAK (R233) -/
  | cEbreak
  /-- C.JALR (R234) -/
  | cJalr (rs1 : Reg)
  /-- C.ADD (R235) -/
  | cAdd (rd rs2 : Reg)
  /-- C.SWSP (R236) -/
  | cSwsp (rs2 : Reg) (uimm : BitVec 8)
  /-- C.SDSP (R237) -/
  | cSdsp (rs2 : Reg) (uimm : BitVec 9)
deriving DecidableEq, Repr

end Sys2Proof
end

