-- ==== Sys2Proof/Machine/State.lean ====
section
/-!
DEFINITION. The state of the machine (spec/10_state.md R17 to R37): the architectural state, the four latches and
their micro-ops, the predictor, the return-address stack, the metrics, the control signal `fetchMode`, and beside
them what the launch fixed. All of it is plain data.

The spec describes one machine in two ways: the pipelined block (spec/40_pipeline_cycle.md) and the sequential
reference, one instruction a step (spec/70_reset_and_hazards.md R264), on the same architectural state. `engine` says
which of the two takes the next step (log entry 1).
-/

namespace Sys2Proof.Machine

/-! ## The decoded record (R27) -/

/-- The instruction tag of a decoded record (R27 `op`): the 32-bit rows of spec/opcode_table.json, and a number for an
instruction of another Decoder than the reference's (R10). A compressed instruction has the tag of its expansion (R202). -/
inductive Op where
  | lui | auipc
  | addi | slti | sltiu | xori | ori | andi | slli | srli | srai
  | add | sub | sll | slt | sltu | xor | srl | sra | or | and
  | addiw | slliw | srliw | sraiw | addw | subw | sllw | srlw | sraw
  | mul | mulh | mulhsu | mulhu | div | divu | rem | remu | mulw | divw | divuw | remw | remuw
  | jal | jalr | beq | bne | blt | bge | bltu | bgeu
  | lb | lh | lw | ld | lbu | lhu | lwu | sb | sh | sw | sd
  | fence | fenceI | ecall | ebreak
  | other (tag : Nat)
deriving DecidableEq, Repr

/-- The decoded record `dec` of R27. A register field the instruction does not have is 0. `memBytes` is 0 and
`memSigned` is false for an instruction that is no load or store. -/
structure Decoded where
  op : Op
  rd : Reg
  rs1 : Reg
  rs2 : Reg
  /-- the immediate, assembled and extended to 64 bits (R59) -/
  imm : Word
  len : Len
  readsRs1 : Bool
  readsRs2 : Bool
  isLoad : Bool
  isStore : Bool
  /-- a conditional branch -/
  isBranch : Bool
  /-- JAL or JALR -/
  isJump : Bool
  regWrite : Bool
  /-- ECALL, EBREAK or FENCE.I (R102) -/
  serial : Bool
  memBytes : Nat
  memSigned : Bool
deriving DecidableEq, Repr

/-! ## The run status (R23, R242) -/

/-- The run-time errors (R243 to R245), with what they record. A micro-op carries one as a pending error (R26 field
`fault`); Writeback raises it. -/
inductive RunError where
  /-- the parcel at `pc`, or the second parcel of the instruction there, is outside the memory region (R243) -/
  | fetchFault (pc : Word)
  /-- the Decoder refused `word` at `pc` (R244) -/
  | illegalInstruction (pc : Word) (word : InstWord)
  /-- a data or host access by the instruction at `pc` is out of range (R245) -/
  | memoryFault (pc addr : Word)
deriving DecidableEq, Repr

/-- Why a run halted (R23). -/
inductive HaltReason where
  | exit
  | ebreak
deriving DecidableEq, Repr

/-- Why a run was refused (R23): the host does not offer the service the ECALL at `pc` asks for. -/
inductive RefusedReason where
  | hostService (pc : Word)
deriving DecidableEq, Repr

/-- The run status (R23). Every value but `running` is terminal (R242). -/
inductive Status where
  | running
  | halted (reason : HaltReason)
  | error (e : RunError)
  | refused (reason : RefusedReason)
  | notHalted
deriving DecidableEq, Repr

/-! ## The micro-op and the latches (R26, R28) -/

/-- Where an operand value comes from (R26 `srcA`, `srcB`): a value, or the lane of the same bundle that produces it. -/
inductive Source where
  | val (v : Word)
  | lane (j : Nat)
deriving DecidableEq, Repr

/-- A micro-op (R26). An invalid slot `⊥` is `none` where a latch holds an `Option MicroOp`, so the field `valid` is
not stored. -/
structure MicroOp where
  pc : Word
  len : Len
  word : InstWord
  /-- the Decoder's record; `none` for a fault slot and for a word the Decoder refuses (R77, R78) -/
  dec : Option Decoded
  /-- the pending error, raised at Writeback -/
  fault : Option RunError
  predTaken : Bool
  predTarget : Word
  dirPred : Bool
  predIdx : Option Nat
  srcA : Source
  srcB : Source
  fusedPrev : Bool
  result : Word
  store : Word
  taken : Bool
  target : Word
deriving DecidableEq, Repr

/-- The slots of a latch, lane 0 oldest (R28, R30). -/
abbrev Lanes := List (Option MicroOp)

/-- A latch (R28): its W slots and the aggregate flag `IsStalled` (R29). `HasContent` is computed. -/
structure Latch where
  lanes : Lanes
  isStalled : Bool
deriving DecidableEq, Repr

/-- `n` bubbles. -/
def bubbles (n : Nat) : Lanes := List.replicate n none

/-- An empty latch of `n` lanes. -/
def Latch.empty (n : Nat) : Latch := ⟨bubbles n, false⟩

/-! ## Metrics and control (R34, R35) -/

/-- The metrics (R34, R253): unbounded naturals. -/
structure Metrics where
  cycles : Nat
  isaRetired : Nat
  committed : Nat
  stalls : Nat
  splits : Nat
  flushes : Nat
  mispredicts : Nat
  condBranches : Nat
  dirCorrect : Nat
deriving DecidableEq, Repr

/-- Every counter 0 (R34). -/
def Metrics.zero : Metrics := ⟨0, 0, 0, 0, 0, 0, 0, 0, 0⟩

/-- The flush-and-recovery control `fetchMode` (R35, R116). -/
inductive FetchMode where
  | run
  | hold
  | bubble
deriving DecidableEq, Repr

/-- Which of the spec's two descriptions of the machine takes the next step (log entry 1): a cycle of the pipelined
block (R69, R72), or one instruction of the sequential reference (R264). The model's own field. -/
inductive Engine where
  | pipeline
  | reference
deriving DecidableEq, Repr

/-- Memory (R21): the bytes that are not 0, by address, in one canonical form (Machine/Ops.lean, `Memory.wf`). -/
abbrev Memory := List Host.Cell

/-- A byte that nothing has written and the image leaves out reads as 0 (R21, R261). -/
def unlistedByte : Byte := 0

/-- The counter table `CT` (R31): the counters that differ from `initCounter`, by index, in the same canonical form. -/
abbrev CounterTable := List (Nat × Nat)

/-- The state of the machine. -/
structure State where
  /-- which description takes the next step (log entry 1) -/
  engine : Engine
  /-- the configuration (R8); no rule writes it -/
  cfg : Config
  /-- the platform parameters (R9); no rule writes them -/
  plat : Platform
  /-- the register file x0..x31 (R17); the slot of x0 stays 0 (R18) -/
  regs : Vector Word 32
  /-- the program counter: where Fetch, or the sequential reference, fetches next (R20) -/
  pc : Word
  /-- memory (R21) -/
  mem : Memory
  /-- the output stream (R22), oldest byte first -/
  out : List Byte
  /-- the run status (R23) -/
  status : Status
  /-- the latch between Fetch and Decode (R28) -/
  ifid : Latch
  /-- the latch between Decode and Execute -/
  idex : Latch
  /-- the latch between Execute and Memory -/
  exmem : Latch
  /-- the latch between Memory and Writeback -/
  memwb : Latch
  /-- the counter table `CT` (R31) -/
  counters : CounterTable
  /-- the global-history register `GHR` of TB bits, as a number below 2^TB (R32) -/
  ghr : Nat
  /-- the return-address stack (R33), newest first -/
  rasStack : List Word
  /-- the metrics (R34) -/
  metrics : Metrics
  /-- the flush-and-recovery control (R35) -/
  fetchMode : FetchMode
deriving DecidableEq, Repr

/-- Why the machine stops with a fault. -/
inductive Fault where
  /-- `ConfigurationError(field)` (R240): the configuration or the launch parameters fail a check, so the run does not
  start. Raised by `step` before anything else. It is the spec's own outcome: safe. -/
  | configurationError (field : ConfigField)
deriving DecidableEq, Repr

/-- Why the machine refuses an instruction. -/
inductive Refusal where
  /-- An instruction that has no meaning yet, by its mnemonic in spec/opcode_table.json. Raised by no arm of `exec`:
  every instruction has its meaning. Safe. -/
  | notModelled (mnemonic : String)
deriving DecidableEq, Repr

/-- The machine at the start of a run, with every value R261 gives: the launch registers and image, `pc` at `ENTRY`,
empty latches, and the predictor, stack, metrics and control at their reset values. -/
def State.initial (engine : Engine) (cfg : Config) (plat : Platform) (regs : Vector Word 32) (mem : Memory) : State where
  engine := engine
  cfg := cfg
  plat := plat
  regs := regs
  pc := plat.entry
  mem := mem
  out := []
  status := .running
  ifid := Latch.empty cfg.width
  idex := Latch.empty cfg.width
  exmem := Latch.empty cfg.width
  memwb := Latch.empty cfg.width
  counters := []
  ghr := 0
  rasStack := []
  metrics := .zero
  fetchMode := .run

/-- The pipelined block right after reset (R261), launched with the defaults of the spec: every register 0, nothing in
the image, the configuration `Config.atReset` and the platform `Platform.atReset` (log entries 1, 3 and 4). -/
def State.reset : State :=
  State.initial .pipeline .atReset .atReset (Vector.replicate 32 0) []

end Sys2Proof.Machine
end

