-- ==== Sys2Proof/Machine/Flags.lean ====
section
/-!
DEFINITION. The flags of the machine. There are no condition codes (spec/10_state.md R24): what the spec calls flags
are the decoded flags of a micro-op (R27), which each instruction's rule fixes, and the conditions the branches
evaluate on two operands (spec/45_control_transfer.md R181 to R186).
-/

namespace Sys2Proof.Machine

/-! ## The decoded flags, by the classes the instruction rules fall in -/

/-- A record with every field 0 and every flag false: what FENCE has (R198), and the base of the others. -/
def plainFlags (op : Op) : Decoded where
  op := op
  rd := 0
  rs1 := 0
  rs2 := 0
  imm := 0
  len := .four
  readsRs1 := false
  readsRs2 := false
  isLoad := false
  isStore := false
  isBranch := false
  isJump := false
  regWrite := false
  serial := false
  memBytes := 0
  memSigned := false

/-- `regWrite` only: the computational instructions (R136 to R178). -/
def computeFlags (op : Op) : Decoded := { plainFlags op with regWrite := true }

/-- `regWrite` and `isJump`: JAL and JALR (R179, R180). -/
def jumpFlags (op : Op) : Decoded := { plainFlags op with regWrite := true, isJump := true }

/-- `isBranch`; both sources are read (R181 to R186). -/
def branchFlags (op : Op) : Decoded := { plainFlags op with isBranch := true, readsRs1 := true, readsRs2 := true }

/-- `isLoad` and `regWrite`, the access size and its sign; rs1 is read (R187 to R193). -/
def loadFlags (op : Op) (bytes : Nat) (signed : Bool) : Decoded :=
  { plainFlags op with isLoad := true, regWrite := true, readsRs1 := true, memBytes := bytes, memSigned := signed }

/-- `isStore` and the access size; both sources are read (R194 to R197). -/
def storeFlags (op : Op) (bytes : Nat) : Decoded :=
  { plainFlags op with isStore := true, readsRs1 := true, readsRs2 := true, memBytes := bytes }

/-- `serial` only: FENCE.I, ECALL and EBREAK (R199 to R201). -/
def serialFlags (op : Op) : Decoded := { plainFlags op with serial := true }

/-! ## The branch conditions -/

/-- BEQ: `a = b` (R181). -/
def condEq (a b : Word) : Bool := a == b
/-- BNE: `a ≠ b` (R182). -/
def condNe (a b : Word) : Bool := a != b
/-- BLT: `s64(a) < s64(b)` (R183). -/
def condLt (a b : Word) : Bool := decide (a.toInt < b.toInt)
/-- BGE: `s64(a) ≥ s64(b)` (R184). -/
def condGe (a b : Word) : Bool := decide (b.toInt ≤ a.toInt)
/-- BLTU: `a < b` (R185). -/
def condLtu (a b : Word) : Bool := decide (a.toNat < b.toNat)
/-- BGEU: `a ≥ b` (R186). -/
def condGeu (a b : Word) : Bool := decide (b.toNat ≤ a.toNat)

end Sys2Proof.Machine
end

