-- ==== Sys2Proof/WellFormed.lean ====
section
/-!
DEFINITION. Which operand values the encodings admit: branch and jump offsets are even (spec/30_encoding.md R59),
scaled compressed immediates are multiples of their scale, and the operands that spec/48_compressed.md R203 calls
reserved are excluded. Every other instruction term is well formed.
-/

namespace Sys2Proof

/-- The low `n` bits of `v` are 0. -/
def lowZero {w : Nat} (n : Nat) (v : BitVec w) : Bool := v.extractLsb' 0 n == 0

/-- The operands of the instruction are values its encoding admits. -/
def Instr.wellFormed : Instr → Bool
  | .jal _ offset => lowZero 1 offset
  | .beq _ _ offset | .bne _ _ offset | .blt _ _ offset | .bge _ _ offset | .bltu _ _ offset | .bgeu _ _ offset =>
    lowZero 1 offset
  | .cAddi4spn _ nzuimm => lowZero 2 nzuimm && nzuimm != 0
  | .cLw _ _ uimm | .cSw _ _ uimm => lowZero 2 uimm
  | .cLd _ _ uimm | .cSd _ _ uimm => lowZero 3 uimm
  | .cAddi rd _ | .cAddiw rd _ => rd != 0
  | .cAddi16sp nzimm => lowZero 4 nzimm && nzimm != 0
  | .cLui rd nzimm => rd != 2 && (lowZero 12 nzimm && nzimm != 0)
  | .cJ offset => lowZero 1 offset
  | .cBeqz _ offset | .cBnez _ offset => lowZero 1 offset
  | .cLwsp rd uimm => rd != 0 && lowZero 2 uimm
  | .cLdsp rd uimm => rd != 0 && lowZero 3 uimm
  | .cJr rs1 | .cJalr rs1 => rs1 != 0
  | .cMv _ rs2 | .cAdd _ rs2 => rs2 != 0
  | .cSwsp _ uimm => lowZero 2 uimm
  | .cSdsp _ uimm => lowZero 3 uimm
  | .lui .. | .auipc .. | .addi .. | .slti .. | .sltiu .. | .xori .. | .ori .. | .andi .. | .slli .. | .srli ..
  | .srai .. | .add .. | .sub .. | .sll .. | .slt .. | .sltu .. | .xor .. | .srl .. | .sra .. | .or .. | .and ..
  | .addiw .. | .slliw .. | .srliw .. | .sraiw .. | .addw .. | .subw .. | .sllw .. | .srlw .. | .sraw .. | .mul ..
  | .mulh .. | .mulhsu .. | .mulhu .. | .div .. | .divu .. | .rem .. | .remu .. | .mulw .. | .divw .. | .divuw ..
  | .remw .. | .remuw .. | .jalr .. | .lb .. | .lh .. | .lw .. | .ld .. | .lbu .. | .lhu .. | .lwu .. | .sb .. | .sh ..
  | .sw .. | .sd .. | .fence .. | .fenceI .. | .ecall | .ebreak | .cNop .. | .cLi .. | .cSrli .. | .cSrai .. | .cAndi ..
  | .cSub .. | .cXor .. | .cOr .. | .cAnd .. | .cSubw .. | .cAddw .. | .cSlli .. | .cEbreak => true

end Sys2Proof
end

