-- ==== Sys2Proof/Decode.lean ====
section
/-!
DEFINITION. The Decoder of the reference instantiation (spec/30_encoding.md R56 to R66, spec/48_compressed.md R202 to
R237) and, after it, the encoder of the same tables. The Decoder reads nothing but its arguments and is total; what
it does not recognise it refuses with a `DecodeError` that names the class of R64 the word falls in.
-/

namespace Sys2Proof

/-- Why the Decoder refuses a word: the classes of R64. The machine reports all of them alike, as IllegalInstruction. -/
inductive DecodeError where
  /-- (a): a 32-bit word whose major opcode is not implemented -/
  | opcodeSpace
  /-- (b): a word of an implemented space that matches no row of the table -/
  | noRow
  /-- (c): a SYSTEM word other than ECALL and EBREAK -/
  | systemWord
  /-- (d): a 16-bit word that R203 lists -/
  | reservedCompressed
  /-- fewer bytes than the instruction has (no rule of the spec: only for the decoder on byte lists) -/
  | truncated
deriving DecidableEq, Repr

/-! ## The fields of a 32-bit word (R58) and its immediates (R59) -/

/-- `inst[6:0]` -/
def opcodeOf (w : InstWord) : BitVec 7 := w.extractLsb' 0 7
/-- `inst[11:7]` -/
def rdOf (w : InstWord) : Reg := w.extractLsb' 7 5
/-- `inst[14:12]` -/
def funct3Of (w : InstWord) : BitVec 3 := w.extractLsb' 12 3
/-- `inst[19:15]` -/
def rs1Of (w : InstWord) : Reg := w.extractLsb' 15 5
/-- `inst[24:20]` -/
def rs2Of (w : InstWord) : Reg := w.extractLsb' 20 5
/-- `inst[31:25]` -/
def funct7Of (w : InstWord) : BitVec 7 := w.extractLsb' 25 7
/-- `inst[31:26]`, the funct6 of the I-shift64 format -/
def funct6Of (w : InstWord) : BitVec 6 := w.extractLsb' 26 6
/-- `inst[25:20]`, the shift amount of the I-shift64 format -/
def shamt6Of (w : InstWord) : BitVec 6 := w.extractLsb' 20 6
/-- `inst[24:20]`, the shift amount of the I-shift32 format -/
def shamt5Of (w : InstWord) : BitVec 5 := w.extractLsb' 20 5
/-- the I immediate, `inst[31:20]` -/
def immIOf (w : InstWord) : BitVec 12 := w.extractLsb' 20 12
/-- the S immediate, `{inst[31:25], inst[11:7]}` -/
def immSOf (w : InstWord) : BitVec 12 := w.extractLsb' 25 7 ++ w.extractLsb' 7 5
/-- the B offset, `{inst[31], inst[7], inst[30:25], inst[11:8], 0}` -/
def immBOf (w : InstWord) : BitVec 13 :=
  w.extractLsb' 31 1 ++ w.extractLsb' 7 1 ++ w.extractLsb' 25 6 ++ w.extractLsb' 8 4 ++ 0#1
/-- the upper 20 bits of the U immediate, `inst[31:12]` -/
def immUOf (w : InstWord) : BitVec 20 := w.extractLsb' 12 20
/-- the J offset, `{inst[31], inst[19:12], inst[20], inst[30:21], 0}` -/
def immJOf (w : InstWord) : BitVec 21 :=
  w.extractLsb' 31 1 ++ w.extractLsb' 12 8 ++ w.extractLsb' 20 1 ++ w.extractLsb' 21 10 ++ 0#1

/-! ## The 32-bit spaces (R61, R62) -/

/-- The space OP (0x33): funct7, then funct3. -/
def decodeOp (f7 : BitVec 7) (f3 : BitVec 3) (rd rs1 rs2 : Reg) : Except DecodeError Instr :=
  if f7 = 0x00#7 then
    if f3 = 0#3 then .ok (.add rd rs1 rs2)
    else if f3 = 1#3 then .ok (.sll rd rs1 rs2)
    else if f3 = 2#3 then .ok (.slt rd rs1 rs2)
    else if f3 = 3#3 then .ok (.sltu rd rs1 rs2)
    else if f3 = 4#3 then .ok (.xor rd rs1 rs2)
    else if f3 = 5#3 then .ok (.srl rd rs1 rs2)
    else if f3 = 6#3 then .ok (.or rd rs1 rs2)
    else .ok (.and rd rs1 rs2)
  else if f7 = 0x20#7 then
    if f3 = 0#3 then .ok (.sub rd rs1 rs2)
    else if f3 = 5#3 then .ok (.sra rd rs1 rs2)
    else .error .noRow
  else if f7 = 0x01#7 then
    if f3 = 0#3 then .ok (.mul rd rs1 rs2)
    else if f3 = 1#3 then .ok (.mulh rd rs1 rs2)
    else if f3 = 2#3 then .ok (.mulhsu rd rs1 rs2)
    else if f3 = 3#3 then .ok (.mulhu rd rs1 rs2)
    else if f3 = 4#3 then .ok (.div rd rs1 rs2)
    else if f3 = 5#3 then .ok (.divu rd rs1 rs2)
    else if f3 = 6#3 then .ok (.rem rd rs1 rs2)
    else .ok (.remu rd rs1 rs2)
  else .error .noRow

/-- The space OP-32 (0x3B). -/
def decodeOp32 (f7 : BitVec 7) (f3 : BitVec 3) (rd rs1 rs2 : Reg) : Except DecodeError Instr :=
  if f7 = 0x00#7 then
    if f3 = 0#3 then .ok (.addw rd rs1 rs2)
    else if f3 = 1#3 then .ok (.sllw rd rs1 rs2)
    else if f3 = 5#3 then .ok (.srlw rd rs1 rs2)
    else .error .noRow
  else if f7 = 0x20#7 then
    if f3 = 0#3 then .ok (.subw rd rs1 rs2)
    else if f3 = 5#3 then .ok (.sraw rd rs1 rs2)
    else .error .noRow
  else if f7 = 0x01#7 then
    if f3 = 0#3 then .ok (.mulw rd rs1 rs2)
    else if f3 = 4#3 then .ok (.divw rd rs1 rs2)
    else if f3 = 5#3 then .ok (.divuw rd rs1 rs2)
    else if f3 = 6#3 then .ok (.remw rd rs1 rs2)
    else if f3 = 7#3 then .ok (.remuw rd rs1 rs2)
    else .error .noRow
  else .error .noRow

/-- The space OP-IMM (0x13); the shifts are chosen by `inst[31:26]`. -/
def decodeOpImm (f6 : BitVec 6) (f3 : BitVec 3) (rd rs1 : Reg) (imm : BitVec 12) (shamt : BitVec 6) :
    Except DecodeError Instr :=
  if f3 = 0#3 then .ok (.addi rd rs1 imm)
  else if f3 = 2#3 then .ok (.slti rd rs1 imm)
  else if f3 = 3#3 then .ok (.sltiu rd rs1 imm)
  else if f3 = 4#3 then .ok (.xori rd rs1 imm)
  else if f3 = 6#3 then .ok (.ori rd rs1 imm)
  else if f3 = 7#3 then .ok (.andi rd rs1 imm)
  else if f3 = 1#3 then
    if f6 = 0x00#6 then .ok (.slli rd rs1 shamt) else .error .noRow
  else
    if f6 = 0x00#6 then .ok (.srli rd rs1 shamt)
    else if f6 = 0x10#6 then .ok (.srai rd rs1 shamt)
    else .error .noRow

/-- The space OP-IMM-32 (0x1B). -/
def decodeOpImm32 (f7 : BitVec 7) (f3 : BitVec 3) (rd rs1 : Reg) (imm : BitVec 12) (shamt : BitVec 5) :
    Except DecodeError Instr :=
  if f3 = 0#3 then .ok (.addiw rd rs1 imm)
  else if f3 = 1#3 then
    if f7 = 0x00#7 then .ok (.slliw rd rs1 shamt) else .error .noRow
  else if f3 = 5#3 then
    if f7 = 0x00#7 then .ok (.srliw rd rs1 shamt)
    else if f7 = 0x20#7 then .ok (.sraiw rd rs1 shamt)
    else .error .noRow
  else .error .noRow

/-- The space LOAD (0x03). -/
def decodeLoad (f3 : BitVec 3) (rd rs1 : Reg) (imm : BitVec 12) : Except DecodeError Instr :=
  if f3 = 0#3 then .ok (.lb rd rs1 imm)
  else if f3 = 1#3 then .ok (.lh rd rs1 imm)
  else if f3 = 2#3 then .ok (.lw rd rs1 imm)
  else if f3 = 3#3 then .ok (.ld rd rs1 imm)
  else if f3 = 4#3 then .ok (.lbu rd rs1 imm)
  else if f3 = 5#3 then .ok (.lhu rd rs1 imm)
  else if f3 = 6#3 then .ok (.lwu rd rs1 imm)
  else .error .noRow

/-- The space STORE (0x23). -/
def decodeStore (f3 : BitVec 3) (rs2 rs1 : Reg) (imm : BitVec 12) : Except DecodeError Instr :=
  if f3 = 0#3 then .ok (.sb rs2 rs1 imm)
  else if f3 = 1#3 then .ok (.sh rs2 rs1 imm)
  else if f3 = 2#3 then .ok (.sw rs2 rs1 imm)
  else if f3 = 3#3 then .ok (.sd rs2 rs1 imm)
  else .error .noRow

/-- The space BRANCH (0x63). -/
def decodeBranch (f3 : BitVec 3) (rs1 rs2 : Reg) (offset : BitVec 13) : Except DecodeError Instr :=
  if f3 = 0#3 then .ok (.beq rs1 rs2 offset)
  else if f3 = 1#3 then .ok (.bne rs1 rs2 offset)
  else if f3 = 4#3 then .ok (.blt rs1 rs2 offset)
  else if f3 = 5#3 then .ok (.bge rs1 rs2 offset)
  else if f3 = 6#3 then .ok (.bltu rs1 rs2 offset)
  else if f3 = 7#3 then .ok (.bgeu rs1 rs2 offset)
  else .error .noRow

/-- The space MISC-MEM (0x0F). -/
def decodeMiscMem (w : InstWord) : Except DecodeError Instr :=
  if funct3Of w = 0#3 then
    .ok (.fence (w.extractLsb' 28 4) (w.extractLsb' 24 4) (w.extractLsb' 20 4) (rs1Of w) (rdOf w))
  else if funct3Of w = 1#3 then .ok (.fenceI (immIOf w) (rs1Of w) (rdOf w))
  else .error .noRow

/-- The space SYSTEM (0x73): two words only. -/
def decodeSystem (w : InstWord) : Except DecodeError Instr :=
  if w = 0x00000073#32 then .ok .ecall
  else if w = 0x00100073#32 then .ok .ebreak
  else .error .systemWord

/-- The Decoder on a 32-bit word: the major opcode selects the space (R61). -/
def decode32 (w : InstWord) : Except DecodeError Instr :=
  if opcodeOf w = 0x33#7 then decodeOp (funct7Of w) (funct3Of w) (rdOf w) (rs1Of w) (rs2Of w)
  else if opcodeOf w = 0x3B#7 then decodeOp32 (funct7Of w) (funct3Of w) (rdOf w) (rs1Of w) (rs2Of w)
  else if opcodeOf w = 0x13#7 then
    decodeOpImm (funct6Of w) (funct3Of w) (rdOf w) (rs1Of w) (immIOf w) (shamt6Of w)
  else if opcodeOf w = 0x1B#7 then
    decodeOpImm32 (funct7Of w) (funct3Of w) (rdOf w) (rs1Of w) (immIOf w) (shamt5Of w)
  else if opcodeOf w = 0x03#7 then decodeLoad (funct3Of w) (rdOf w) (rs1Of w) (immIOf w)
  else if opcodeOf w = 0x23#7 then decodeStore (funct3Of w) (rs2Of w) (rs1Of w) (immSOf w)
  else if opcodeOf w = 0x63#7 then decodeBranch (funct3Of w) (rs1Of w) (rs2Of w) (immBOf w)
  else if opcodeOf w = 0x67#7 then
    if funct3Of w = 0#3 then .ok (.jalr (rdOf w) (rs1Of w) (immIOf w)) else .error .noRow
  else if opcodeOf w = 0x6F#7 then .ok (.jal (rdOf w) (immJOf w))
  else if opcodeOf w = 0x37#7 then .ok (.lui (rdOf w) (immUOf w))
  else if opcodeOf w = 0x17#7 then .ok (.auipc (rdOf w) (immUOf w))
  else if opcodeOf w = 0x0F#7 then decodeMiscMem w
  else if opcodeOf w = 0x73#7 then decodeSystem w
  else .error .opcodeSpace

/-! ## The compressed forms (R63, R203 to R237) -/

/-- `inst[15:13]` -/
def cFunct3Of (h : Parcel) : BitVec 3 := h.extractLsb' 13 3
/-- `inst[1:0]`, the quadrant -/
def quadrantOf (h : Parcel) : BitVec 2 := h.extractLsb' 0 2
/-- `inst[11:7]`, rd/rs1 of the CR and CI formats -/
def cRdOf (h : Parcel) : Reg := h.extractLsb' 7 5
/-- `inst[6:2]`, rs2 of the CR and CSS formats -/
def cRs2Of (h : Parcel) : Reg := h.extractLsb' 2 5
/-- `inst[9:7]`, rs1' and rd'/rs1' -/
def cRs1pOf (h : Parcel) : CReg := h.extractLsb' 7 3
/-- `inst[4:2]`, rd' and rs2' -/
def cRdpOf (h : Parcel) : CReg := h.extractLsb' 2 3
/-- `{inst[12], inst[6:2]}`, the 6-bit immediate or shift amount of the CI and CB formats -/
def cImm6Of (h : Parcel) : BitVec 6 := h.extractLsb' 12 1 ++ h.extractLsb' 2 5
/-- C.ADDI4SPN: `{inst[10:7], inst[12:11], inst[5], inst[6], 00}` (R205) -/
def cImmAddi4spn (h : Parcel) : BitVec 10 :=
  h.extractLsb' 7 4 ++ h.extractLsb' 11 2 ++ h.extractLsb' 5 1 ++ h.extractLsb' 6 1 ++ 0#2
/-- C.LW and C.SW: `{inst[5], inst[12:10], inst[6], 00}` (R206) -/
def cImmLw (h : Parcel) : BitVec 7 := h.extractLsb' 5 1 ++ h.extractLsb' 10 3 ++ h.extractLsb' 6 1 ++ 0#2
/-- C.LD and C.SD: `{inst[6:5], inst[12:10], 000}` (R207) -/
def cImmLd (h : Parcel) : BitVec 8 := h.extractLsb' 5 2 ++ h.extractLsb' 10 3 ++ 0#3
/-- C.ADDI16SP: `{inst[12], inst[4:3], inst[5], inst[2], inst[6], 0000}` (R214) -/
def cImmAddi16sp (h : Parcel) : BitVec 10 :=
  h.extractLsb' 12 1 ++ h.extractLsb' 3 2 ++ h.extractLsb' 5 1 ++ h.extractLsb' 2 1 ++ h.extractLsb' 6 1 ++ 0#4
/-- C.LUI: `{inst[12], inst[6:2], 0x000}` (R215) -/
def cImmLui (h : Parcel) : BitVec 18 := h.extractLsb' 12 1 ++ h.extractLsb' 2 5 ++ 0#12
/-- C.J: `{inst[12], inst[8], inst[10:9], inst[6], inst[7], inst[2], inst[11], inst[5:3], 0}` (R225) -/
def cImmJ (h : Parcel) : BitVec 12 :=
  h.extractLsb' 12 1 ++ h.extractLsb' 8 1 ++ h.extractLsb' 9 2 ++ h.extractLsb' 6 1 ++ h.extractLsb' 7 1 ++
    h.extractLsb' 2 1 ++ h.extractLsb' 11 1 ++ h.extractLsb' 3 3 ++ 0#1
/-- C.BEQZ and C.BNEZ: `{inst[12], inst[6:5], inst[2], inst[11:10], inst[4:3], 0}` (R226) -/
def cImmB (h : Parcel) : BitVec 9 :=
  h.extractLsb' 12 1 ++ h.extractLsb' 5 2 ++ h.extractLsb' 2 1 ++ h.extractLsb' 10 2 ++ h.extractLsb' 3 2 ++ 0#1
/-- C.LWSP: `{inst[3:2], inst[12], inst[6:4], 00}` (R229) -/
def cImmLwsp (h : Parcel) : BitVec 8 := h.extractLsb' 2 2 ++ h.extractLsb' 12 1 ++ h.extractLsb' 4 3 ++ 0#2
/-- C.LDSP: `{inst[4:2], inst[12], inst[6:5], 000}` (R230) -/
def cImmLdsp (h : Parcel) : BitVec 9 := h.extractLsb' 2 3 ++ h.extractLsb' 12 1 ++ h.extractLsb' 5 2 ++ 0#3
/-- C.SWSP: `{inst[8:7], inst[12:9], 00}` (R236) -/
def cImmSwsp (h : Parcel) : BitVec 8 := h.extractLsb' 7 2 ++ h.extractLsb' 9 4 ++ 0#2
/-- C.SDSP: `{inst[9:7], inst[12:10], 000}` (R237) -/
def cImmSdsp (h : Parcel) : BitVec 9 := h.extractLsb' 7 3 ++ h.extractLsb' 10 3 ++ 0#3

/-- Quadrant 00 (R205 to R209; reserved: nzuimm = 0 and the funct3 values 001, 100, 101). -/
def decodeQuadrant0 (h : Parcel) : Except DecodeError Instr :=
  if cFunct3Of h = 0#3 then
    if cImmAddi4spn h = 0 then .error .reservedCompressed else .ok (.cAddi4spn (cRdpOf h) (cImmAddi4spn h))
  else if cFunct3Of h = 2#3 then .ok (.cLw (cRdpOf h) (cRs1pOf h) (cImmLw h))
  else if cFunct3Of h = 3#3 then .ok (.cLd (cRdpOf h) (cRs1pOf h) (cImmLd h))
  else if cFunct3Of h = 6#3 then .ok (.cSw (cRdpOf h) (cRs1pOf h) (cImmLw h))
  else if cFunct3Of h = 7#3 then .ok (.cSd (cRdpOf h) (cRs1pOf h) (cImmLd h))
  else .error .reservedCompressed

/-- Quadrant 01 with funct3 = 100: `inst[11:10]`, then `inst[12]` and `inst[6:5]` (R216 to R224). -/
def decodeQuadrant1Alu (h : Parcel) : Except DecodeError Instr :=
  if h.extractLsb' 10 2 = 0#2 then .ok (.cSrli (cRs1pOf h) (cImm6Of h))
  else if h.extractLsb' 10 2 = 1#2 then .ok (.cSrai (cRs1pOf h) (cImm6Of h))
  else if h.extractLsb' 10 2 = 2#2 then .ok (.cAndi (cRs1pOf h) (cImm6Of h))
  else if h.extractLsb' 12 1 = 0#1 then
    if h.extractLsb' 5 2 = 0#2 then .ok (.cSub (cRs1pOf h) (cRdpOf h))
    else if h.extractLsb' 5 2 = 1#2 then .ok (.cXor (cRs1pOf h) (cRdpOf h))
    else if h.extractLsb' 5 2 = 2#2 then .ok (.cOr (cRs1pOf h) (cRdpOf h))
    else .ok (.cAnd (cRs1pOf h) (cRdpOf h))
  else
    if h.extractLsb' 5 2 = 0#2 then .ok (.cSubw (cRs1pOf h) (cRdpOf h))
    else if h.extractLsb' 5 2 = 1#2 then .ok (.cAddw (cRs1pOf h) (cRdpOf h))
    else .error .reservedCompressed

/-- Quadrant 01 (R210 to R227). -/
def decodeQuadrant1 (h : Parcel) : Except DecodeError Instr :=
  if cFunct3Of h = 0#3 then
    if cRdOf h = 0 then .ok (.cNop (cImm6Of h)) else .ok (.cAddi (cRdOf h) (cImm6Of h))
  else if cFunct3Of h = 1#3 then
    if cRdOf h = 0 then .error .reservedCompressed else .ok (.cAddiw (cRdOf h) (cImm6Of h))
  else if cFunct3Of h = 2#3 then .ok (.cLi (cRdOf h) (cImm6Of h))
  else if cFunct3Of h = 3#3 then
    if cRdOf h = 2 then
      if cImmAddi16sp h = 0 then .error .reservedCompressed else .ok (.cAddi16sp (cImmAddi16sp h))
    else
      if cImmLui h = 0 then .error .reservedCompressed else .ok (.cLui (cRdOf h) (cImmLui h))
  else if cFunct3Of h = 4#3 then decodeQuadrant1Alu h
  else if cFunct3Of h = 5#3 then .ok (.cJ (cImmJ h))
  else if cFunct3Of h = 6#3 then .ok (.cBeqz (cRs1pOf h) (cImmB h))
  else .ok (.cBnez (cRs1pOf h) (cImmB h))

/-- Quadrant 10 with funct3 = 100: `inst[12]` and which of the two register fields are 0 (R231 to R235). -/
def decodeQuadrant2Cr (h : Parcel) : Except DecodeError Instr :=
  if h.extractLsb' 12 1 = 0#1 then
    if cRs2Of h = 0 then
      if cRdOf h = 0 then .error .reservedCompressed else .ok (.cJr (cRdOf h))
    else .ok (.cMv (cRdOf h) (cRs2Of h))
  else
    if cRs2Of h = 0 then
      if cRdOf h = 0 then .ok .cEbreak else .ok (.cJalr (cRdOf h))
    else .ok (.cAdd (cRdOf h) (cRs2Of h))

/-- Quadrant 10 (R228 to R237; reserved: the funct3 values 001 and 101, and the rd = 0 and rs1 = 0 forms). -/
def decodeQuadrant2 (h : Parcel) : Except DecodeError Instr :=
  if cFunct3Of h = 0#3 then .ok (.cSlli (cRdOf h) (cImm6Of h))
  else if cFunct3Of h = 2#3 then
    if cRdOf h = 0 then .error .reservedCompressed else .ok (.cLwsp (cRdOf h) (cImmLwsp h))
  else if cFunct3Of h = 3#3 then
    if cRdOf h = 0 then .error .reservedCompressed else .ok (.cLdsp (cRdOf h) (cImmLdsp h))
  else if cFunct3Of h = 4#3 then decodeQuadrant2Cr h
  else if cFunct3Of h = 6#3 then .ok (.cSwsp (cRs2Of h) (cImmSwsp h))
  else if cFunct3Of h = 7#3 then .ok (.cSdsp (cRs2Of h) (cImmSdsp h))
  else .error .reservedCompressed

/-- The Decoder on a 16-bit parcel. Quadrant 11 is no compressed form (R203), so it matches no row. -/
def decode16 (h : Parcel) : Except DecodeError Instr :=
  if quadrantOf h = 0#2 then decodeQuadrant0 h
  else if quadrantOf h = 1#2 then decodeQuadrant1 h
  else if quadrantOf h = 2#2 then decodeQuadrant2 h
  else .error .noRow

/-- The Decoder of R56, `decode(word, len)`. A 16-bit word is the low half of `word`. -/
def decode (word : InstWord) (len : Len) : Except DecodeError Instr :=
  match len with
  | .two => decode16 (word.setWidth 16)
  | .four => decode32 word

/-- The length of an instruction, from its first parcel (R57). -/
def lenOfParcel (h : Parcel) : Len := if h.extractLsb' 0 2 = 3#2 then .four else .two

/-- The Decoder on the bytes of memory from the instruction's address on, little-endian (R40, R57): the instruction
and the bytes after it. -/
def decodeBytes : List Byte → Except DecodeError (Instr × List Byte)
  | b0 :: b1 :: rest =>
    match lenOfParcel (b1 ++ b0) with
    | .two => (decode16 (b1 ++ b0)).map fun i => (i, rest)
    | .four =>
      match rest with
      | b2 :: b3 :: rest' => (decode32 (b3 ++ b2 ++ b1 ++ b0)).map fun i => (i, rest')
      | _ => .error .truncated
  | _ => .error .truncated

/-- The `n` bytes of `v`, least significant first: the order in which the hardware stores them (R40). -/
def littleEndianBytes : Nat → Nat → List Byte
  | 0, _ => []
  | n + 1, v => BitVec.ofNat 8 v :: littleEndianBytes n (v / 256)

/-- The bits of a row of the opcode table as the hardware stores them: the low `nbits` bits of `w`, every higher bit
of the longest instruction 0, as four bytes. -/
def tableBytes (nbits w : Nat) : List Byte := littleEndianBytes 4 (w % 2 ^ nbits)

/-- The instruction the Decoder reads from the bits of a row of spec/opcode_table.json. -/
def decodeTableWord (nbits w : Nat) : Option Instr :=
  match decodeBytes (tableBytes nbits w) with
  | .ok (i, _) => some i
  | .error _ => none

/-! ## The encoder, from the same tables -/

/-- The R format of R58. -/
def encR (f7 : BitVec 7) (rs2 rs1 : Reg) (f3 : BitVec 3) (rd : Reg) (op : BitVec 7) : InstWord :=
  f7 ++ rs2 ++ rs1 ++ f3 ++ rd ++ op
/-- The I format of R58. -/
def encI (imm : BitVec 12) (rs1 : Reg) (f3 : BitVec 3) (rd : Reg) (op : BitVec 7) : InstWord :=
  imm ++ rs1 ++ f3 ++ rd ++ op
/-- The I-shift64 format of R58. -/
def encShift64 (f6 shamt : BitVec 6) (rs1 : Reg) (f3 : BitVec 3) (rd : Reg) (op : BitVec 7) : InstWord :=
  f6 ++ shamt ++ rs1 ++ f3 ++ rd ++ op
/-- The S format of R58: imm[11:5] and imm[4:0]. -/
def encS (imm : BitVec 12) (rs2 rs1 : Reg) (f3 : BitVec 3) (op : BitVec 7) : InstWord :=
  imm.extractLsb' 5 7 ++ rs2 ++ rs1 ++ f3 ++ imm.extractLsb' 0 5 ++ op
/-- The B format of R58: imm[12], imm[10:5], and imm[4:1], imm[11]. -/
def encB (imm : BitVec 13) (rs2 rs1 : Reg) (f3 : BitVec 3) (op : BitVec 7) : InstWord :=
  imm.extractLsb' 12 1 ++ imm.extractLsb' 5 6 ++ rs2 ++ rs1 ++ f3 ++ imm.extractLsb' 1 4 ++ imm.extractLsb' 11 1 ++ op
/-- The U format of R58. -/
def encU (imm20 : BitVec 20) (rd : Reg) (op : BitVec 7) : InstWord := imm20 ++ rd ++ op
/-- The J format of R58: imm[20], imm[10:1], imm[11], imm[19:12]. -/
def encJ (imm : BitVec 21) (rd : Reg) (op : BitVec 7) : InstWord :=
  imm.extractLsb' 20 1 ++ imm.extractLsb' 1 10 ++ imm.extractLsb' 11 1 ++ imm.extractLsb' 12 8 ++ rd ++ op

/-- The CR format of R63. -/
def encCr (f4 : BitVec 4) (rd rs2 : Reg) (op : BitVec 2) : Parcel := f4 ++ rd ++ rs2 ++ op
/-- The CI format of R63, with its immediate as the two fields `inst[12]` and `inst[6:2]`. -/
def encCi (f3 : BitVec 3) (hi : BitVec 1) (rd : Reg) (lo : BitVec 5) (op : BitVec 2) : Parcel :=
  f3 ++ hi ++ rd ++ lo ++ op
/-- The CI format with the 6-bit immediate `{inst[12], inst[6:2]}`. -/
def encCi6 (f3 : BitVec 3) (imm : BitVec 6) (rd : Reg) (op : BitVec 2) : Parcel :=
  encCi f3 (imm.extractLsb' 5 1) rd (imm.extractLsb' 0 5) op
/-- The CIW format of R63. -/
def encCiw (f3 : BitVec 3) (imm : BitVec 8) (rdp : CReg) (op : BitVec 2) : Parcel := f3 ++ imm ++ rdp ++ op
/-- The CL and CS formats of R63, with the immediate as the two fields `inst[12:10]` and `inst[6:5]`. -/
def encCl (f3 hi : BitVec 3) (rs1p : CReg) (lo : BitVec 2) (rp : CReg) (op : BitVec 2) : Parcel :=
  f3 ++ hi ++ rs1p ++ lo ++ rp ++ op
/-- The CSS format of R63. -/
def encCss (f3 : BitVec 3) (imm : BitVec 6) (rs2 : Reg) (op : BitVec 2) : Parcel := f3 ++ imm ++ rs2 ++ op
/-- The CA format of R63. -/
def encCa (f6 : BitVec 6) (rdp : CReg) (f2 : BitVec 2) (rs2p : CReg) (op : BitVec 2) : Parcel :=
  f6 ++ rdp ++ f2 ++ rs2p ++ op
/-- The CB format of R63 as used by C.SRLI, C.SRAI and C.ANDI. -/
def encCbAlu (f3 : BitVec 3) (imm : BitVec 6) (f2 : BitVec 2) (rdp : CReg) (op : BitVec 2) : Parcel :=
  f3 ++ imm.extractLsb' 5 1 ++ f2 ++ rdp ++ imm.extractLsb' 0 5 ++ op
/-- The CB format of R63 as used by the branches: offset[8|4:3] and offset[7:6|2:1|5]. -/
def encCb (f3 : BitVec 3) (off : BitVec 9) (rs1p : CReg) (op : BitVec 2) : Parcel :=
  f3 ++ off.extractLsb' 8 1 ++ off.extractLsb' 3 2 ++ rs1p ++ off.extractLsb' 6 2 ++ off.extractLsb' 1 2 ++
    off.extractLsb' 5 1 ++ op
/-- The CJ format of R63: offset[11|4|9:8|10|6|7|3:1|5]. -/
def encCj (f3 : BitVec 3) (off : BitVec 12) (op : BitVec 2) : Parcel :=
  f3 ++ off.extractLsb' 11 1 ++ off.extractLsb' 4 1 ++ off.extractLsb' 8 2 ++ off.extractLsb' 10 1 ++
    off.extractLsb' 6 1 ++ off.extractLsb' 7 1 ++ off.extractLsb' 1 3 ++ off.extractLsb' 5 1 ++ op

/-- The instruction's word. A 16-bit word is zero-extended, as the micro-op's `word` field holds it (R202). -/
def encode : Instr → InstWord
  | .lui rd imm20 => encU imm20 rd 0x37
  | .auipc rd imm20 => encU imm20 rd 0x17
  | .addi rd rs1 imm => encI imm rs1 0 rd 0x13
  | .slti rd rs1 imm => encI imm rs1 2 rd 0x13
  | .sltiu rd rs1 imm => encI imm rs1 3 rd 0x13
  | .xori rd rs1 imm => encI imm rs1 4 rd 0x13
  | .ori rd rs1 imm => encI imm rs1 6 rd 0x13
  | .andi rd rs1 imm => encI imm rs1 7 rd 0x13
  | .slli rd rs1 shamt => encShift64 0x00 shamt rs1 1 rd 0x13
  | .srli rd rs1 shamt => encShift64 0x00 shamt rs1 5 rd 0x13
  | .srai rd rs1 shamt => encShift64 0x10 shamt rs1 5 rd 0x13
  | .add rd rs1 rs2 => encR 0x00 rs2 rs1 0 rd 0x33
  | .sub rd rs1 rs2 => encR 0x20 rs2 rs1 0 rd 0x33
  | .sll rd rs1 rs2 => encR 0x00 rs2 rs1 1 rd 0x33
  | .slt rd rs1 rs2 => encR 0x00 rs2 rs1 2 rd 0x33
  | .sltu rd rs1 rs2 => encR 0x00 rs2 rs1 3 rd 0x33
  | .xor rd rs1 rs2 => encR 0x00 rs2 rs1 4 rd 0x33
  | .srl rd rs1 rs2 => encR 0x00 rs2 rs1 5 rd 0x33
  | .sra rd rs1 rs2 => encR 0x20 rs2 rs1 5 rd 0x33
  | .or rd rs1 rs2 => encR 0x00 rs2 rs1 6 rd 0x33
  | .and rd rs1 rs2 => encR 0x00 rs2 rs1 7 rd 0x33
  | .addiw rd rs1 imm => encI imm rs1 0 rd 0x1B
  | .slliw rd rs1 shamt => encR 0x00 shamt rs1 1 rd 0x1B
  | .srliw rd rs1 shamt => encR 0x00 shamt rs1 5 rd 0x1B
  | .sraiw rd rs1 shamt => encR 0x20 shamt rs1 5 rd 0x1B
  | .addw rd rs1 rs2 => encR 0x00 rs2 rs1 0 rd 0x3B
  | .subw rd rs1 rs2 => encR 0x20 rs2 rs1 0 rd 0x3B
  | .sllw rd rs1 rs2 => encR 0x00 rs2 rs1 1 rd 0x3B
  | .srlw rd rs1 rs2 => encR 0x00 rs2 rs1 5 rd 0x3B
  | .sraw rd rs1 rs2 => encR 0x20 rs2 rs1 5 rd 0x3B
  | .mul rd rs1 rs2 => encR 0x01 rs2 rs1 0 rd 0x33
  | .mulh rd rs1 rs2 => encR 0x01 rs2 rs1 1 rd 0x33
  | .mulhsu rd rs1 rs2 => encR 0x01 rs2 rs1 2 rd 0x33
  | .mulhu rd rs1 rs2 => encR 0x01 rs2 rs1 3 rd 0x33
  | .div rd rs1 rs2 => encR 0x01 rs2 rs1 4 rd 0x33
  | .divu rd rs1 rs2 => encR 0x01 rs2 rs1 5 rd 0x33
  | .rem rd rs1 rs2 => encR 0x01 rs2 rs1 6 rd 0x33
  | .remu rd rs1 rs2 => encR 0x01 rs2 rs1 7 rd 0x33
  | .mulw rd rs1 rs2 => encR 0x01 rs2 rs1 0 rd 0x3B
  | .divw rd rs1 rs2 => encR 0x01 rs2 rs1 4 rd 0x3B
  | .divuw rd rs1 rs2 => encR 0x01 rs2 rs1 5 rd 0x3B
  | .remw rd rs1 rs2 => encR 0x01 rs2 rs1 6 rd 0x3B
  | .remuw rd rs1 rs2 => encR 0x01 rs2 rs1 7 rd 0x3B
  | .jal rd offset => encJ offset rd 0x6F
  | .jalr rd rs1 imm => encI imm rs1 0 rd 0x67
  | .beq rs1 rs2 offset => encB offset rs2 rs1 0 0x63
  | .bne rs1 rs2 offset => encB offset rs2 rs1 1 0x63
  | .blt rs1 rs2 offset => encB offset rs2 rs1 4 0x63
  | .bge rs1 rs2 offset => encB offset rs2 rs1 5 0x63
  | .bltu rs1 rs2 offset => encB offset rs2 rs1 6 0x63
  | .bgeu rs1 rs2 offset => encB offset rs2 rs1 7 0x63
  | .lb rd rs1 imm => encI imm rs1 0 rd 0x03
  | .lh rd rs1 imm => encI imm rs1 1 rd 0x03
  | .lw rd rs1 imm => encI imm rs1 2 rd 0x03
  | .ld rd rs1 imm => encI imm rs1 3 rd 0x03
  | .lbu rd rs1 imm => encI imm rs1 4 rd 0x03
  | .lhu rd rs1 imm => encI imm rs1 5 rd 0x03
  | .lwu rd rs1 imm => encI imm rs1 6 rd 0x03
  | .sb rs2 rs1 imm => encS imm rs2 rs1 0 0x23
  | .sh rs2 rs1 imm => encS imm rs2 rs1 1 0x23
  | .sw rs2 rs1 imm => encS imm rs2 rs1 2 0x23
  | .sd rs2 rs1 imm => encS imm rs2 rs1 3 0x23
  | .fence fm pred succ rs1 rd => encI (fm ++ pred ++ succ) rs1 0 rd 0x0F
  | .fenceI imm rs1 rd => encI imm rs1 1 rd 0x0F
  | .ecall => 0x00000073
  | .ebreak => 0x00100073
  | .cAddi4spn rdp u =>
    (encCiw 0 (u.extractLsb' 4 2 ++ u.extractLsb' 6 4 ++ u.extractLsb' 2 1 ++ u.extractLsb' 3 1) rdp 0).setWidth 32
  | .cLw rdp rs1p u =>
    (encCl 2 (u.extractLsb' 3 3) rs1p (u.extractLsb' 2 1 ++ u.extractLsb' 6 1) rdp 0).setWidth 32
  | .cLd rdp rs1p u => (encCl 3 (u.extractLsb' 3 3) rs1p (u.extractLsb' 6 2) rdp 0).setWidth 32
  | .cSw rs2p rs1p u =>
    (encCl 6 (u.extractLsb' 3 3) rs1p (u.extractLsb' 2 1 ++ u.extractLsb' 6 1) rs2p 0).setWidth 32
  | .cSd rs2p rs1p u => (encCl 7 (u.extractLsb' 3 3) rs1p (u.extractLsb' 6 2) rs2p 0).setWidth 32
  | .cNop imm => (encCi6 0 imm 0 1).setWidth 32
  | .cAddi rd imm => (encCi6 0 imm rd 1).setWidth 32
  | .cAddiw rd imm => (encCi6 1 imm rd 1).setWidth 32
  | .cLi rd imm => (encCi6 2 imm rd 1).setWidth 32
  | .cAddi16sp u =>
    (encCi 3 (u.extractLsb' 9 1) 2
      (u.extractLsb' 4 1 ++ u.extractLsb' 6 1 ++ u.extractLsb' 7 2 ++ u.extractLsb' 5 1) 1).setWidth 32
  | .cLui rd u => (encCi 3 (u.extractLsb' 17 1) rd (u.extractLsb' 12 5) 1).setWidth 32
  | .cSrli rdp shamt => (encCbAlu 4 shamt 0 rdp 1).setWidth 32
  | .cSrai rdp shamt => (encCbAlu 4 shamt 1 rdp 1).setWidth 32
  | .cAndi rdp imm => (encCbAlu 4 imm 2 rdp 1).setWidth 32
  | .cSub rdp rs2p => (encCa 0b100011 rdp 0 rs2p 1).setWidth 32
  | .cXor rdp rs2p => (encCa 0b100011 rdp 1 rs2p 1).setWidth 32
  | .cOr rdp rs2p => (encCa 0b100011 rdp 2 rs2p 1).setWidth 32
  | .cAnd rdp rs2p => (encCa 0b100011 rdp 3 rs2p 1).setWidth 32
  | .cSubw rdp rs2p => (encCa 0b100111 rdp 0 rs2p 1).setWidth 32
  | .cAddw rdp rs2p => (encCa 0b100111 rdp 1 rs2p 1).setWidth 32
  | .cJ offset => (encCj 5 offset 1).setWidth 32
  | .cBeqz rs1p offset => (encCb 6 offset rs1p 1).setWidth 32
  | .cBnez rs1p offset => (encCb 7 offset rs1p 1).setWidth 32
  | .cSlli rd shamt => (encCi6 0 shamt rd 2).setWidth 32
  | .cLwsp rd u => (encCi 2 (u.extractLsb' 5 1) rd (u.extractLsb' 2 3 ++ u.extractLsb' 6 2) 2).setWidth 32
  | .cLdsp rd u => (encCi 3 (u.extractLsb' 5 1) rd (u.extractLsb' 3 2 ++ u.extractLsb' 6 3) 2).setWidth 32
  | .cJr rs1 => (encCr 8 rs1 0 2).setWidth 32
  | .cMv rd rs2 => (encCr 8 rd rs2 2).setWidth 32
  | .cEbreak => 0x9002
  | .cJalr rs1 => (encCr 9 rs1 0 2).setWidth 32
  | .cAdd rd rs2 => (encCr 9 rd rs2 2).setWidth 32
  | .cSwsp rs2 u => (encCss 6 (u.extractLsb' 2 4 ++ u.extractLsb' 6 2) rs2 2).setWidth 32
  | .cSdsp rs2 u => (encCss 7 (u.extractLsb' 3 3 ++ u.extractLsb' 6 3) rs2 2).setWidth 32

/-- The instruction's width: 16 bits for the compressed forms (R202), 32 for the others. -/
def lenOf : Instr → Len
  | .cAddi4spn .. | .cLw .. | .cLd .. | .cSw .. | .cSd .. | .cNop .. | .cAddi .. | .cAddiw .. | .cLi .. | .cAddi16sp ..
  | .cLui .. | .cSrli .. | .cSrai .. | .cAndi .. | .cSub .. | .cXor .. | .cOr .. | .cAnd .. | .cSubw .. | .cAddw ..
  | .cJ .. | .cBeqz .. | .cBnez .. | .cSlli .. | .cLwsp .. | .cLdsp .. | .cJr .. | .cMv .. | .cEbreak | .cJalr ..
  | .cAdd .. | .cSwsp .. | .cSdsp .. => .two
  | .lui .. | .auipc .. | .addi .. | .slti .. | .sltiu .. | .xori .. | .ori .. | .andi .. | .slli .. | .srli ..
  | .srai .. | .add .. | .sub .. | .sll .. | .slt .. | .sltu .. | .xor .. | .srl .. | .sra .. | .or .. | .and ..
  | .addiw .. | .slliw .. | .srliw .. | .sraiw .. | .addw .. | .subw .. | .sllw .. | .srlw .. | .sraw .. | .mul ..
  | .mulh .. | .mulhsu .. | .mulhu .. | .div .. | .divu .. | .rem .. | .remu .. | .mulw .. | .divw .. | .divuw ..
  | .remw .. | .remuw .. | .jal .. | .jalr .. | .beq .. | .bne .. | .blt .. | .bge .. | .bltu .. | .bgeu .. | .lb ..
  | .lh .. | .lw .. | .ld .. | .lbu .. | .lhu .. | .lwu .. | .sb .. | .sh .. | .sw .. | .sd .. | .fence .. | .fenceI ..
  | .ecall | .ebreak => .four

/-- The instruction's bytes as memory holds them, least significant first (R40). -/
def encodeBytes (i : Instr) : List Byte := littleEndianBytes (lenOf i).bytes (encode i).toNat

end Sys2Proof
end

