-- ==== Sys2Proof/Machine/Operands.lean ====
section
/-!
DEFINITION. The operand forms: how each format's immediate becomes 64 bits (spec/30_encoding.md R59), which registers
a primed field names (R63), which source fields are real operands (R60), and the decoded record of every instruction
(spec/10_state.md R27). A compressed instruction's record is its expansion's, with `len = 2` (spec/48_compressed.md
R202).
-/

namespace Sys2Proof.Machine

/-! ## Registers and immediates -/

/-- The register a primed field names: x(8 + r') (R63). -/
def primed (r : CReg) : Reg := 1#2 ++ r

/-- The I, S, B and J immediates, and the signed compressed ones: `sext_N` to 64 bits (R59). -/
def sext {w : Nat} (v : BitVec w) : Word := v.signExtend 64

/-- The shift amounts and the unsigned compressed immediates: `zext_N` to 64 bits (R59). -/
def zext {w : Nat} (v : BitVec w) : Word := v.setWidth 64

/-- The U immediate: `sext_32({imm20, 0x000})` (R59). -/
def immU (imm20 : BitVec 20) : Word := ((imm20 ++ 0#12 : BitVec 32)).signExtend 64

/-! ## The record of each format (R59, R60) -/

/-- R format: reads rs1 and rs2. -/
def recordR (op : Op) (rd rs1 rs2 : Reg) : Decoded :=
  { computeFlags op with rd := rd, rs1 := rs1, rs2 := rs2, readsRs1 := true, readsRs2 := true }

/-- I and I-shift formats: reads rs1. -/
def recordI (op : Op) (rd rs1 : Reg) (imm : Word) : Decoded :=
  { computeFlags op with rd := rd, rs1 := rs1, imm := imm, readsRs1 := true }

/-- U format: reads no register. -/
def recordU (op : Op) (rd : Reg) (imm : Word) : Decoded := { computeFlags op with rd := rd, imm := imm }

/-- B format: reads rs1 and rs2. -/
def recordB (op : Op) (rs1 rs2 : Reg) (imm : Word) : Decoded :=
  { branchFlags op with rs1 := rs1, rs2 := rs2, imm := imm }

/-- A load: I format. -/
def recordLoad (op : Op) (bytes : Nat) (signed : Bool) (rd rs1 : Reg) (imm : Word) : Decoded :=
  { loadFlags op bytes signed with rd := rd, rs1 := rs1, imm := imm }

/-- A store: S format. -/
def recordStore (op : Op) (bytes : Nat) (rs2 rs1 : Reg) (imm : Word) : Decoded :=
  { storeFlags op bytes with rs1 := rs1, rs2 := rs2, imm := imm }

/-- JAL: J format, reads no register. -/
def recordJal (rd : Reg) (imm : Word) : Decoded := { jumpFlags .jal with rd := rd, imm := imm }

/-- JALR: I format, reads rs1. -/
def recordJalr (rd rs1 : Reg) (imm : Word) : Decoded :=
  { jumpFlags .jalr with rd := rd, rs1 := rs1, imm := imm, readsRs1 := true }

/-- The record of a 16-bit form from its expansion's: only `len` differs (R202). -/
def compressed (d : Decoded) : Decoded := { d with len := .two }

/-- The decoded record of an instruction (R27): what `decode(word)` gives the pipeline. -/
def recordOf : Instr → Decoded
  | .lui rd imm20 => recordU .lui rd (immU imm20)
  | .auipc rd imm20 => recordU .auipc rd (immU imm20)
  | .addi rd rs1 imm => recordI .addi rd rs1 (sext imm)
  | .slti rd rs1 imm => recordI .slti rd rs1 (sext imm)
  | .sltiu rd rs1 imm => recordI .sltiu rd rs1 (sext imm)
  | .xori rd rs1 imm => recordI .xori rd rs1 (sext imm)
  | .ori rd rs1 imm => recordI .ori rd rs1 (sext imm)
  | .andi rd rs1 imm => recordI .andi rd rs1 (sext imm)
  | .slli rd rs1 shamt => recordI .slli rd rs1 (zext shamt)
  | .srli rd rs1 shamt => recordI .srli rd rs1 (zext shamt)
  | .srai rd rs1 shamt => recordI .srai rd rs1 (zext shamt)
  | .add rd rs1 rs2 => recordR .add rd rs1 rs2
  | .sub rd rs1 rs2 => recordR .sub rd rs1 rs2
  | .sll rd rs1 rs2 => recordR .sll rd rs1 rs2
  | .slt rd rs1 rs2 => recordR .slt rd rs1 rs2
  | .sltu rd rs1 rs2 => recordR .sltu rd rs1 rs2
  | .xor rd rs1 rs2 => recordR .xor rd rs1 rs2
  | .srl rd rs1 rs2 => recordR .srl rd rs1 rs2
  | .sra rd rs1 rs2 => recordR .sra rd rs1 rs2
  | .or rd rs1 rs2 => recordR .or rd rs1 rs2
  | .and rd rs1 rs2 => recordR .and rd rs1 rs2
  | .addiw rd rs1 imm => recordI .addiw rd rs1 (sext imm)
  | .slliw rd rs1 shamt => recordI .slliw rd rs1 (zext shamt)
  | .srliw rd rs1 shamt => recordI .srliw rd rs1 (zext shamt)
  | .sraiw rd rs1 shamt => recordI .sraiw rd rs1 (zext shamt)
  | .addw rd rs1 rs2 => recordR .addw rd rs1 rs2
  | .subw rd rs1 rs2 => recordR .subw rd rs1 rs2
  | .sllw rd rs1 rs2 => recordR .sllw rd rs1 rs2
  | .srlw rd rs1 rs2 => recordR .srlw rd rs1 rs2
  | .sraw rd rs1 rs2 => recordR .sraw rd rs1 rs2
  | .mul rd rs1 rs2 => recordR .mul rd rs1 rs2
  | .mulh rd rs1 rs2 => recordR .mulh rd rs1 rs2
  | .mulhsu rd rs1 rs2 => recordR .mulhsu rd rs1 rs2
  | .mulhu rd rs1 rs2 => recordR .mulhu rd rs1 rs2
  | .div rd rs1 rs2 => recordR .div rd rs1 rs2
  | .divu rd rs1 rs2 => recordR .divu rd rs1 rs2
  | .rem rd rs1 rs2 => recordR .rem rd rs1 rs2
  | .remu rd rs1 rs2 => recordR .remu rd rs1 rs2
  | .mulw rd rs1 rs2 => recordR .mulw rd rs1 rs2
  | .divw rd rs1 rs2 => recordR .divw rd rs1 rs2
  | .divuw rd rs1 rs2 => recordR .divuw rd rs1 rs2
  | .remw rd rs1 rs2 => recordR .remw rd rs1 rs2
  | .remuw rd rs1 rs2 => recordR .remuw rd rs1 rs2
  | .jal rd offset => recordJal rd (sext offset)
  | .jalr rd rs1 imm => recordJalr rd rs1 (sext imm)
  | .beq rs1 rs2 offset => recordB .beq rs1 rs2 (sext offset)
  | .bne rs1 rs2 offset => recordB .bne rs1 rs2 (sext offset)
  | .blt rs1 rs2 offset => recordB .blt rs1 rs2 (sext offset)
  | .bge rs1 rs2 offset => recordB .bge rs1 rs2 (sext offset)
  | .bltu rs1 rs2 offset => recordB .bltu rs1 rs2 (sext offset)
  | .bgeu rs1 rs2 offset => recordB .bgeu rs1 rs2 (sext offset)
  | .lb rd rs1 imm => recordLoad .lb 1 true rd rs1 (sext imm)
  | .lh rd rs1 imm => recordLoad .lh 2 true rd rs1 (sext imm)
  | .lw rd rs1 imm => recordLoad .lw 4 true rd rs1 (sext imm)
  | .ld rd rs1 imm => recordLoad .ld 8 true rd rs1 (sext imm)
  | .lbu rd rs1 imm => recordLoad .lbu 1 false rd rs1 (sext imm)
  | .lhu rd rs1 imm => recordLoad .lhu 2 false rd rs1 (sext imm)
  | .lwu rd rs1 imm => recordLoad .lwu 4 false rd rs1 (sext imm)
  | .sb rs2 rs1 imm => recordStore .sb 1 rs2 rs1 (sext imm)
  | .sh rs2 rs1 imm => recordStore .sh 2 rs2 rs1 (sext imm)
  | .sw rs2 rs1 imm => recordStore .sw 4 rs2 rs1 (sext imm)
  | .sd rs2 rs1 imm => recordStore .sd 8 rs2 rs1 (sext imm)
  | .fence _ _ _ rs1 rd => { plainFlags .fence with rs1 := rs1, rd := rd }
  | .fenceI _ rs1 rd => { serialFlags .fenceI with rs1 := rs1, rd := rd }
  | .ecall => serialFlags .ecall
  | .ebreak => serialFlags .ebreak
  | .cAddi4spn rdp u => compressed (recordI .addi (primed rdp) 2 (zext u))
  | .cLw rdp rs1p u => compressed (recordLoad .lw 4 true (primed rdp) (primed rs1p) (zext u))
  | .cLd rdp rs1p u => compressed (recordLoad .ld 8 true (primed rdp) (primed rs1p) (zext u))
  | .cSw rs2p rs1p u => compressed (recordStore .sw 4 (primed rs2p) (primed rs1p) (zext u))
  | .cSd rs2p rs1p u => compressed (recordStore .sd 8 (primed rs2p) (primed rs1p) (zext u))
  | .cNop imm => compressed (recordI .addi 0 0 (sext imm))
  | .cAddi rd imm => compressed (recordI .addi rd rd (sext imm))
  | .cAddiw rd imm => compressed (recordI .addiw rd rd (sext imm))
  | .cLi rd imm => compressed (recordI .addi rd 0 (sext imm))
  | .cAddi16sp nzimm => compressed (recordI .addi 2 2 (sext nzimm))
  | .cLui rd nzimm => compressed (recordU .lui rd (sext nzimm))
  | .cSrli rdp shamt => compressed (recordI .srli (primed rdp) (primed rdp) (zext shamt))
  | .cSrai rdp shamt => compressed (recordI .srai (primed rdp) (primed rdp) (zext shamt))
  | .cAndi rdp imm => compressed (recordI .andi (primed rdp) (primed rdp) (sext imm))
  | .cSub rdp rs2p => compressed (recordR .sub (primed rdp) (primed rdp) (primed rs2p))
  | .cXor rdp rs2p => compressed (recordR .xor (primed rdp) (primed rdp) (primed rs2p))
  | .cOr rdp rs2p => compressed (recordR .or (primed rdp) (primed rdp) (primed rs2p))
  | .cAnd rdp rs2p => compressed (recordR .and (primed rdp) (primed rdp) (primed rs2p))
  | .cSubw rdp rs2p => compressed (recordR .subw (primed rdp) (primed rdp) (primed rs2p))
  | .cAddw rdp rs2p => compressed (recordR .addw (primed rdp) (primed rdp) (primed rs2p))
  | .cJ offset => compressed (recordJal 0 (sext offset))
  | .cBeqz rs1p offset => compressed (recordB .beq (primed rs1p) 0 (sext offset))
  | .cBnez rs1p offset => compressed (recordB .bne (primed rs1p) 0 (sext offset))
  | .cSlli rd shamt => compressed (recordI .slli rd rd (zext shamt))
  | .cLwsp rd u => compressed (recordLoad .lw 4 true rd 2 (zext u))
  | .cLdsp rd u => compressed (recordLoad .ld 8 true rd 2 (zext u))
  | .cJr rs1 => compressed (recordJalr 0 rs1 0)
  | .cMv rd rs2 => compressed (recordR .add rd 0 rs2)
  | .cEbreak => compressed (serialFlags .ebreak)
  | .cJalr rs1 => compressed (recordJalr 1 rs1 0)
  | .cAdd rd rs2 => compressed (recordR .add rd rd rs2)
  | .cSwsp rs2 u => compressed (recordStore .sw 4 rs2 2 (zext u))
  | .cSdsp rs2 u => compressed (recordStore .sd 8 rs2 2 (zext u))

/-- The 32-bit instruction a compressed one expands to (R63, R205 to R237); a 32-bit instruction is its own. -/
def expand : Instr → Instr
  | .cAddi4spn rdp u => .addi (primed rdp) 2 (u.setWidth 12)
  | .cLw rdp rs1p u => .lw (primed rdp) (primed rs1p) (u.setWidth 12)
  | .cLd rdp rs1p u => .ld (primed rdp) (primed rs1p) (u.setWidth 12)
  | .cSw rs2p rs1p u => .sw (primed rs2p) (primed rs1p) (u.setWidth 12)
  | .cSd rs2p rs1p u => .sd (primed rs2p) (primed rs1p) (u.setWidth 12)
  | .cNop imm => .addi 0 0 (imm.signExtend 12)
  | .cAddi rd imm => .addi rd rd (imm.signExtend 12)
  | .cAddiw rd imm => .addiw rd rd (imm.signExtend 12)
  | .cLi rd imm => .addi rd 0 (imm.signExtend 12)
  | .cAddi16sp nzimm => .addi 2 2 (nzimm.signExtend 12)
  | .cLui rd nzimm => .lui rd ((nzimm.extractLsb' 12 6).signExtend 20)
  | .cSrli rdp shamt => .srli (primed rdp) (primed rdp) shamt
  | .cSrai rdp shamt => .srai (primed rdp) (primed rdp) shamt
  | .cAndi rdp imm => .andi (primed rdp) (primed rdp) (imm.signExtend 12)
  | .cSub rdp rs2p => .sub (primed rdp) (primed rdp) (primed rs2p)
  | .cXor rdp rs2p => .xor (primed rdp) (primed rdp) (primed rs2p)
  | .cOr rdp rs2p => .or (primed rdp) (primed rdp) (primed rs2p)
  | .cAnd rdp rs2p => .and (primed rdp) (primed rdp) (primed rs2p)
  | .cSubw rdp rs2p => .subw (primed rdp) (primed rdp) (primed rs2p)
  | .cAddw rdp rs2p => .addw (primed rdp) (primed rdp) (primed rs2p)
  | .cJ offset => .jal 0 (offset.signExtend 21)
  | .cBeqz rs1p offset => .beq (primed rs1p) 0 (offset.signExtend 13)
  | .cBnez rs1p offset => .bne (primed rs1p) 0 (offset.signExtend 13)
  | .cSlli rd shamt => .slli rd rd shamt
  | .cLwsp rd u => .lw rd 2 (u.setWidth 12)
  | .cLdsp rd u => .ld rd 2 (u.setWidth 12)
  | .cJr rs1 => .jalr 0 rs1 0
  | .cMv rd rs2 => .add rd 0 rs2
  | .cEbreak => .ebreak
  | .cJalr rs1 => .jalr 1 rs1 0
  | .cAdd rd rs2 => .add rd rd rs2
  | .cSwsp rs2 u => .sw rs2 2 (u.setWidth 12)
  | .cSdsp rs2 u => .sd rs2 2 (u.setWidth 12)
  | .lui rd imm20 => .lui rd imm20
  | .auipc rd imm20 => .auipc rd imm20
  | .addi rd rs1 imm => .addi rd rs1 imm
  | .slti rd rs1 imm => .slti rd rs1 imm
  | .sltiu rd rs1 imm => .sltiu rd rs1 imm
  | .xori rd rs1 imm => .xori rd rs1 imm
  | .ori rd rs1 imm => .ori rd rs1 imm
  | .andi rd rs1 imm => .andi rd rs1 imm
  | .slli rd rs1 shamt => .slli rd rs1 shamt
  | .srli rd rs1 shamt => .srli rd rs1 shamt
  | .srai rd rs1 shamt => .srai rd rs1 shamt
  | .add rd rs1 rs2 => .add rd rs1 rs2
  | .sub rd rs1 rs2 => .sub rd rs1 rs2
  | .sll rd rs1 rs2 => .sll rd rs1 rs2
  | .slt rd rs1 rs2 => .slt rd rs1 rs2
  | .sltu rd rs1 rs2 => .sltu rd rs1 rs2
  | .xor rd rs1 rs2 => .xor rd rs1 rs2
  | .srl rd rs1 rs2 => .srl rd rs1 rs2
  | .sra rd rs1 rs2 => .sra rd rs1 rs2
  | .or rd rs1 rs2 => .or rd rs1 rs2
  | .and rd rs1 rs2 => .and rd rs1 rs2
  | .addiw rd rs1 imm => .addiw rd rs1 imm
  | .slliw rd rs1 shamt => .slliw rd rs1 shamt
  | .srliw rd rs1 shamt => .srliw rd rs1 shamt
  | .sraiw rd rs1 shamt => .sraiw rd rs1 shamt
  | .addw rd rs1 rs2 => .addw rd rs1 rs2
  | .subw rd rs1 rs2 => .subw rd rs1 rs2
  | .sllw rd rs1 rs2 => .sllw rd rs1 rs2
  | .srlw rd rs1 rs2 => .srlw rd rs1 rs2
  | .sraw rd rs1 rs2 => .sraw rd rs1 rs2
  | .mul rd rs1 rs2 => .mul rd rs1 rs2
  | .mulh rd rs1 rs2 => .mulh rd rs1 rs2
  | .mulhsu rd rs1 rs2 => .mulhsu rd rs1 rs2
  | .mulhu rd rs1 rs2 => .mulhu rd rs1 rs2
  | .div rd rs1 rs2 => .div rd rs1 rs2
  | .divu rd rs1 rs2 => .divu rd rs1 rs2
  | .rem rd rs1 rs2 => .rem rd rs1 rs2
  | .remu rd rs1 rs2 => .remu rd rs1 rs2
  | .mulw rd rs1 rs2 => .mulw rd rs1 rs2
  | .divw rd rs1 rs2 => .divw rd rs1 rs2
  | .divuw rd rs1 rs2 => .divuw rd rs1 rs2
  | .remw rd rs1 rs2 => .remw rd rs1 rs2
  | .remuw rd rs1 rs2 => .remuw rd rs1 rs2
  | .jal rd offset => .jal rd offset
  | .jalr rd rs1 imm => .jalr rd rs1 imm
  | .beq rs1 rs2 offset => .beq rs1 rs2 offset
  | .bne rs1 rs2 offset => .bne rs1 rs2 offset
  | .blt rs1 rs2 offset => .blt rs1 rs2 offset
  | .bge rs1 rs2 offset => .bge rs1 rs2 offset
  | .bltu rs1 rs2 offset => .bltu rs1 rs2 offset
  | .bgeu rs1 rs2 offset => .bgeu rs1 rs2 offset
  | .lb rd rs1 imm => .lb rd rs1 imm
  | .lh rd rs1 imm => .lh rd rs1 imm
  | .lw rd rs1 imm => .lw rd rs1 imm
  | .ld rd rs1 imm => .ld rd rs1 imm
  | .lbu rd rs1 imm => .lbu rd rs1 imm
  | .lhu rd rs1 imm => .lhu rd rs1 imm
  | .lwu rd rs1 imm => .lwu rd rs1 imm
  | .sb rs2 rs1 imm => .sb rs2 rs1 imm
  | .sh rs2 rs1 imm => .sh rs2 rs1 imm
  | .sw rs2 rs1 imm => .sw rs2 rs1 imm
  | .sd rs2 rs1 imm => .sd rs2 rs1 imm
  | .fence fm pred succ rs1 rd => .fence fm pred succ rs1 rd
  | .fenceI imm rs1 rd => .fenceI imm rs1 rd
  | .ecall => .ecall
  | .ebreak => .ebreak

end Sys2Proof.Machine
end

