-- ==== Sys2Proof/Machine/Ops.lean ====
section
/-!
DEFINITION. The named operations over registers, memory, status and host that every rule uses: the primitives of
spec/00_scope.md R12. `State.raise` is the one operation that takes an error (the block has no trap mechanism and
nothing returns from an error, spec/60_exceptions.md R248).
-/

namespace Sys2Proof.Machine

/-! ## Sparse data in one canonical form: memory and the counter table -/

/-- The value at index `a` of a list of (index, value) pairs in which an unlisted index has the value `d`. -/
def sparseRead {β : Type} (d : β) : List (Nat × β) → Nat → β
  | [], _ => d
  | (k, v) :: rest, a => if a = k then v else sparseRead d rest a

/-- Writes `v` at index `a`, keeping the canonical form: indices strictly rising, no entry equal to `d`. -/
def sparseWrite {β : Type} [DecidableEq β] (d : β) : List (Nat × β) → Nat → β → List (Nat × β)
  | [], a, v => if v = d then [] else [(a, v)]
  | (k, w) :: rest, a, v =>
    if a < k then (if v = d then (k, w) :: rest else (a, v) :: (k, w) :: rest)
    else if a = k then (if v = d then rest else (a, v) :: rest)
    else (k, w) :: sparseWrite d rest a v

/-- The canonical form: indices strictly rising, and no entry equal to the value an unlisted index has. -/
abbrev sparseWf {β : Type} [DecidableEq β] (d : β) (m : List (Nat × β)) : Prop :=
  m.Pairwise (fun p q => p.1 < q.1) ∧ ∀ p ∈ m, p.2 ≠ d

/-! ## Memory (R38 to R49) -/

/-- The canonical form of memory. -/
abbrev Memory.wf (m : Memory) : Prop := sparseWf unlistedByte m

/-- The byte `M[a]`. -/
def Memory.byte (m : Memory) (a : Nat) : Byte := sparseRead unlistedByte m a

/-- Memory with the byte `v` at address `a`. -/
def Memory.setByte (m : Memory) (a : Nat) (v : Byte) : Memory := sparseWrite unlistedByte m a v

/-- `MemRead(a, n)`: the `n` bytes from `a` on as a little-endian number (R40). -/
def Memory.readLE (m : Memory) (a : Nat) : Nat → Nat
  | 0 => 0
  | n + 1 => (m.byte a).toNat + 256 * Memory.readLE m (a + 1) n

/-- `MemWrite(a, n, v)`: the low `8·n` bits of `v` at the bytes from `a` on, least significant first (R41). -/
def Memory.writeLE (m : Memory) (a : Nat) : Nat → Nat → Memory
  | 0, _ => m
  | n + 1, v => Memory.writeLE (m.setByte a (BitVec.ofNat 8 v)) (a + 1) n (v / 256)

/-- The `n` bytes of memory from `a` on, lowest address first. -/
def Memory.bytes (m : Memory) (a : Nat) : Nat → List Byte
  | 0 => []
  | n + 1 => m.byte a :: Memory.bytes m (a + 1) n

/-- The access of `n` bytes at `addr` lies in the memory region, as mathematical integers without wrap-around (R39). -/
def Platform.inRange (p : Platform) (addr n : Nat) : Bool := p.memBase ≤ addr && addr + n ≤ p.memBase + p.memSize

/-- The MemoryBus, a parameter of the block (R5, R10): which accesses of `n` bytes exist, and what a read and a write
of `n` bytes do. There is no alignment fault (R43). -/
structure MemoryBus where
  /-- the access of `n` bytes at an address is in range -/
  inRange : Platform → Nat → Nat → Bool
  /-- the number that `n` bytes at an address hold -/
  read : Memory → Nat → Nat → Nat
  /-- the memory after a number is written to `n` bytes at an address -/
  write : Memory → Nat → Nat → Nat → Memory

/-- The reference MemoryBus, the default: R39, R40 and R41. -/
def MemoryBus.reference : MemoryBus where
  inRange := Platform.inRange
  read := Memory.readLE
  write := Memory.writeLE

/-- `inRange(addr, n)` of R39 in a state. -/
def State.inRange (s : State) (addr : Word) (n : Nat) (bus : MemoryBus := .reference) : Bool :=
  bus.inRange s.plat addr.toNat n

/-- `MemRead(addr, n)` of R40 in a state. -/
def State.memRead (s : State) (addr : Word) (n : Nat) (bus : MemoryBus := .reference) : Nat :=
  bus.read s.mem addr.toNat n

/-- `MemWrite(addr, n, v)` of R41 in a state. -/
def State.memWrite (s : State) (addr : Word) (n : Nat) (v : Word) (bus : MemoryBus := .reference) : State :=
  { s with mem := bus.write s.mem addr.toNat n v.toNat }

/-! ## Registers, pc, status (R12, R17, R18, R20, R23) -/

/-- `x[r]`: 0 for x0 (R18). -/
def State.reg (s : State) (r : Reg) : Word := if r = 0 then 0 else s.regs[r.toNat]'r.isLt

/-- A register file with `x[r] <- v`: nothing for x0 (R18). -/
def writeRegs (regs : Vector Word 32) (r : Reg) (v : Word) : Vector Word 32 :=
  if r = 0 then regs else regs.set r.toNat v r.isLt

/-- `x[r] <- v`: nothing for x0 (R18). -/
def State.setReg (s : State) (r : Reg) (v : Word) : State := { s with regs := writeRegs s.regs r v }

/-- `pc <- target`. -/
def State.setPc (s : State) (target : Word) : State := { s with pc := target }

/-- `status <- st`. -/
def State.setStatus (s : State) (st : Status) : State := { s with status := st }

/-- `raise E(info)` of R12: the run ends with the error. Nothing is saved, no mode changes and `pc` stays (R248). -/
def State.raise (s : State) (e : RunError) : State := s.setStatus (.error e)

/-! ## The host (R251, R252) -/

/-- The reference host `TestHost` (R252): service 93 (exit) and service 64 (write). -/
def testHost (plat : Platform) (x : Reg → Word) (mem : Memory) : HostReply :=
  if x 17 = 93 then ⟨.exit, [], [], []⟩
  else if x 17 = 64 then
    if x 12 = 0 then ⟨.continue, [(10, 0)], [], []⟩
    else if Platform.inRange plat (x 11).toNat (x 12).toNat then
      ⟨.continue, [(10, x 12)], [], mem.bytes (x 11).toNat (x 12).toNat⟩
    else ⟨.fault (x 11), [], [], []⟩
  else ⟨.refuse, [], [], []⟩

/-- What the host of this run answers, called with the register file, memory and output stream as they are (R251). -/
def State.hostReply (s : State) : HostReply :=
  match s.plat.host with
  | .testHost => testHost s.plat s.reg s.mem
  | .external => Config.externalHost s.regs.toList s.mem s.out

/-- The host's memory writes, in order. Only a byte of the memory region can be written (R251). -/
def applyMemWrites (plat : Platform) (m : Memory) : List Host.Cell → Memory
  | [] => m
  | (a, v) :: rest =>
    applyMemWrites plat (if Platform.inRange plat a 1 then m.setByte a v else m) rest

/-- The host's register writes, in order. x0 stays 0 (R251). -/
def applyRegWrites (regs : Vector Word 32) : List (Reg × Word) → Vector Word 32
  | [] => regs
  | (r, v) :: rest => applyRegWrites (writeRegs regs r v) rest

/-- The effect of the host's changes: registers, memory and the bytes appended to the output stream (R251). -/
def State.applyReply (s : State) (r : HostReply) : State :=
  { s with
    regs := applyRegWrites s.regs r.regWrites
    mem := applyMemWrites s.plat s.mem r.memWrites
    out := s.out ++ r.appended }

/-- The ECALL at `pc` (R97, R200): calls the host and acts on its verdict. The changes take effect for `Continue` and
`Exit` and are discarded for `Fault` and `Refuse` (R251). What follows a `Continue` is the caller's. -/
def State.hostCall (s : State) (pc : Word) : State :=
  match s.hostReply.verdict with
  | .continue => s.applyReply s.hostReply
  | .exit => (s.applyReply s.hostReply).setStatus (.halted .exit)
  | .fault addr => s.raise (.memoryFault pc addr)
  | .refuse => s.setStatus (.refused (.hostService pc))

/-! ## Metrics and latches -/

/-- The state with its metrics changed by `f`. -/
def State.count (s : State) (f : Metrics → Metrics) : State := { s with metrics := f s.metrics }

/-- The lanes of a latch replaced; its flag stays. -/
def Latch.withLanes (l : Latch) (lanes : Lanes) : Latch := { l with lanes := lanes }

/-- Micro-ops in the lanes of a latch of `n` lanes, from lane 0; the others are bubbles. -/
def packLanes (n : Nat) (ops : List MicroOp) : Lanes := ops.map some ++ bubbles (n - ops.length)

/-- `⊥` in every lane of a latch; its width and its flag stay. -/
def Latch.cleared (l : Latch) : Latch := l.withLanes (bubbles l.lanes.length)

/-- `HasContent(L)`: some slot is valid (R29). -/
def Latch.hasContent (l : Latch) : Bool := l.lanes.any Option.isSome

/-- `⊥` in every lane of IDEX and IFID: the part every flush shares (R91, R98, R114). -/
def State.clearFront (s : State) : State := { s with idex := s.idex.cleared, ifid := s.ifid.cleared }

/-! ## Helpers of the micro-op (R26, R78): every flag is false when `dec` is none -/

/-- The address after a micro-op, `(u.pc + u.len) mod 2^64`. -/
def MicroOp.nextPc (u : MicroOp) : Word := u.pc + u.len.word

/-- A decoded flag of a micro-op, false when there is no decoded record (R78). -/
def MicroOp.flag (u : MicroOp) (f : Decoded → Bool) : Bool :=
  match u.dec with
  | some d => f d
  | none => false

/-- The micro-op carries no pending error. -/
def MicroOp.clean (u : MicroOp) : Bool := u.fault.isNone

end Sys2Proof.Machine
end

