-- ==== Sys2Proof/Machine/Forms.lean ====
section
/-!
DEFINITION. The forms an instruction takes on the sequential reference (spec/00_scope.md R14, spec/70_reset_and_hazards.md
R264 items 3 to 6): access memory, write rd, set pc. Every instruction of the opcode table is one of these forms over
its own value functions. Each form answers a next state: an out-of-range access raises its error in `status`, and a
halt is a status, so no form stops with a fault or a refusal.
-/

namespace Sys2Proof.Machine

/-- What a step answers. -/
abbrev Answer := Host.Outcome State Fault Refusal

/-- The address after an instruction of width `len` at `pc`. -/
def State.pcAfter (s : State) (len : Len) : Word := s.pc + len.word

/-- A computational instruction: `x[rd] <- v`, then the next instruction. -/
def finishReg (rd : Reg) (v : Word) (len : Len) (s : State) : Answer :=
  .next ((s.setReg rd v).setPc (s.pcAfter len))

/-- An instruction with no effect but to go on. -/
def finishNone (len : Len) (s : State) : Answer := .next (s.setPc (s.pcAfter len))

/-- The loaded value: `memSigned ? sext : zext` of the `bytes` bytes read (R89). -/
def extendLoad (bytes : Nat) (signed : Bool) (v : Nat) : Word :=
  if signed then sext (BitVec.ofNat (8 * bytes) v) else zext (BitVec.ofNat (8 * bytes) v)

/-- A load of `bytes` bytes at `addr` (R89, R187 to R193): out of range it raises MemoryFault and does nothing else. -/
def finishLoad (bytes : Nat) (signed : Bool) (rd : Reg) (addr : Word) (len : Len) (s : State) : Answer :=
  if s.inRange addr bytes then finishReg rd (extendLoad bytes signed (s.memRead addr bytes)) len s
  else .next (s.raise (.memoryFault s.pc addr))

/-- A store of the low `bytes` bytes of `v` at `addr` (R89, R194 to R197): out of range it raises MemoryFault and
writes nothing. -/
def finishStore (bytes : Nat) (v : Word) (addr : Word) (len : Len) (s : State) : Answer :=
  if s.inRange addr bytes then .next ((s.memWrite addr bytes v).setPc (s.pcAfter len))
  else .next (s.raise (.memoryFault s.pc addr))

/-- A conditional branch by `offset` (R181 to R186). -/
def finishBranch (taken : Bool) (offset : Word) (len : Len) (s : State) : Answer :=
  .next (s.setPc (if taken then s.pc + offset else s.pcAfter len))

/-- A jump to `target` that links in rd (R179, R180). -/
def finishJump (rd : Reg) (target : Word) (len : Len) (s : State) : Answer :=
  .next ((s.setReg rd (s.pcAfter len)).setPc target)

/-- ECALL (R200, R264 item 5): the host's verdict; after a `Continue` the next instruction, otherwise the run has
ended and pc stays. -/
def finishCall (len : Len) (s : State) : Answer :=
  match s.hostReply.verdict with
  | .continue => .next ((s.hostCall s.pc).setPc (s.pcAfter len))
  | .exit | .fault _ | .refuse => .next (s.hostCall s.pc)

/-- EBREAK (R201, R264 item 5): the run halts and pc stays. -/
def finishBreak (s : State) : Answer := .next (s.setStatus (.halted .ebreak))

end Sys2Proof.Machine
end

