-- ==== Sys2Proof/Machine/ControlTransfer.lean ====
section
/-!
DEFINITION. Jumps and conditional branches (spec/45_control_transfer.md R179 to R186) on the sequential reference; the
conditions are in Machine/Flags.lean.
-/

namespace Sys2Proof.Machine

/-- JALR's target: `((a + imm) mod 2^64) AND NOT 1` (R180). -/
def jalrTarget (a imm : Word) : Word := (a + imm) &&& ~~~1#64

/-- JAL (R179). -/
def execJal (rd : Reg) (offset : BitVec 21) (s : State) : Answer := finishJump rd (s.pc + sext offset) .four s
/-- JALR (R180); the target is computed from the old rs1. -/
def execJalr (rd rs1 : Reg) (imm : BitVec 12) (s : State) : Answer :=
  finishJump rd (jalrTarget (s.reg rs1) (sext imm)) .four s
/-- BEQ (R181). -/
def execBeq (rs1 rs2 : Reg) (offset : BitVec 13) (s : State) : Answer :=
  finishBranch (condEq (s.reg rs1) (s.reg rs2)) (sext offset) .four s
/-- BNE (R182). -/
def execBne (rs1 rs2 : Reg) (offset : BitVec 13) (s : State) : Answer :=
  finishBranch (condNe (s.reg rs1) (s.reg rs2)) (sext offset) .four s
/-- BLT (R183). -/
def execBlt (rs1 rs2 : Reg) (offset : BitVec 13) (s : State) : Answer :=
  finishBranch (condLt (s.reg rs1) (s.reg rs2)) (sext offset) .four s
/-- BGE (R184). -/
def execBge (rs1 rs2 : Reg) (offset : BitVec 13) (s : State) : Answer :=
  finishBranch (condGe (s.reg rs1) (s.reg rs2)) (sext offset) .four s
/-- BLTU (R185). -/
def execBltu (rs1 rs2 : Reg) (offset : BitVec 13) (s : State) : Answer :=
  finishBranch (condLtu (s.reg rs1) (s.reg rs2)) (sext offset) .four s
/-- BGEU (R186). -/
def execBgeu (rs1 rs2 : Reg) (offset : BitVec 13) (s : State) : Answer :=
  finishBranch (condGeu (s.reg rs1) (s.reg rs2)) (sext offset) .four s

end Sys2Proof.Machine
end

