-- ==== Sys2Proof/Machine/IntegerAlu.lean ====
section
/-!
DEFINITION. The integer computational instructions (spec/43_integer_alu.md R136 to R165): a value function for each
computation, and the meaning of each instruction over it. A shift amount is the low 6 bits of the second operand (the
low 5 for the 32-bit forms); an immediate shift amount is decoded to that width, so the same functions serve.
-/

namespace Sys2Proof.Machine

/-- `v[31:0]` -/
def low32 (v : Word) : BitVec 32 := v.extractLsb' 0 32

/-! ## What each instruction computes -/

/-- `(a + b) mod 2^64` (R138, R147) -/
def aluAdd (a b : Word) : Word := a + b
/-- `(a − b) mod 2^64` (R148) -/
def aluSub (a b : Word) : Word := a - b
/-- `(s64(a) < s64(b)) ? 1 : 0` (R139, R150) -/
def aluSlt (a b : Word) : Word := if a.toInt < b.toInt then 1 else 0
/-- `(a < b) ? 1 : 0`, unsigned (R140, R151) -/
def aluSltu (a b : Word) : Word := if a.toNat < b.toNat then 1 else 0
/-- `a XOR b` (R141, R152) -/
def aluXor (a b : Word) : Word := a ^^^ b
/-- `a OR b` (R142, R155) -/
def aluOr (a b : Word) : Word := a ||| b
/-- `a AND b` (R143, R156) -/
def aluAnd (a b : Word) : Word := a &&& b
/-- `(a << b[5:0]) mod 2^64` (R144, R149) -/
def aluSll (a b : Word) : Word := a <<< (b.extractLsb' 0 6).toNat
/-- `a >>u b[5:0]` (R145, R153) -/
def aluSrl (a b : Word) : Word := a >>> (b.extractLsb' 0 6).toNat
/-- `a >>s b[5:0]` (R146, R154) -/
def aluSra (a b : Word) : Word := a.sshiftRight (b.extractLsb' 0 6).toNat
/-- `sext_32(((a + b) mod 2^64)[31:0])` (R157, R161) -/
def aluAddw (a b : Word) : Word := sext (low32 (a + b))
/-- `sext_32(((a − b) mod 2^64)[31:0])` (R162) -/
def aluSubw (a b : Word) : Word := sext (low32 (a - b))
/-- `sext_32((a << b[4:0])[31:0])` (R158, R163) -/
def aluSllw (a b : Word) : Word := sext (low32 (a <<< (b.extractLsb' 0 5).toNat))
/-- `sext_32(a[31:0] >>u b[4:0])` (R159, R164) -/
def aluSrlw (a b : Word) : Word := sext (low32 a >>> (b.extractLsb' 0 5).toNat)
/-- `sext_32((sext_32(a[31:0]) >>s b[4:0])[31:0])` (R160, R165) -/
def aluSraw (a b : Word) : Word := sext (low32 ((sext (low32 a)).sshiftRight (b.extractLsb' 0 5).toNat))

/-! ## The instructions -/

/-- LUI (R136). -/
def execLui (rd : Reg) (imm20 : BitVec 20) (s : State) : Answer := finishReg rd (immU imm20) .four s
/-- AUIPC (R137). -/
def execAuipc (rd : Reg) (imm20 : BitVec 20) (s : State) : Answer := finishReg rd (s.pc + immU imm20) .four s
/-- ADDI (R138). -/
def execAddi (rd rs1 : Reg) (imm : BitVec 12) (s : State) : Answer :=
  finishReg rd (aluAdd (s.reg rs1) (sext imm)) .four s
/-- SLTI (R139). -/
def execSlti (rd rs1 : Reg) (imm : BitVec 12) (s : State) : Answer :=
  finishReg rd (aluSlt (s.reg rs1) (sext imm)) .four s
/-- SLTIU (R140). -/
def execSltiu (rd rs1 : Reg) (imm : BitVec 12) (s : State) : Answer :=
  finishReg rd (aluSltu (s.reg rs1) (sext imm)) .four s
/-- XORI (R141). -/
def execXori (rd rs1 : Reg) (imm : BitVec 12) (s : State) : Answer :=
  finishReg rd (aluXor (s.reg rs1) (sext imm)) .four s
/-- ORI (R142). -/
def execOri (rd rs1 : Reg) (imm : BitVec 12) (s : State) : Answer :=
  finishReg rd (aluOr (s.reg rs1) (sext imm)) .four s
/-- ANDI (R143). -/
def execAndi (rd rs1 : Reg) (imm : BitVec 12) (s : State) : Answer :=
  finishReg rd (aluAnd (s.reg rs1) (sext imm)) .four s
/-- SLLI (R144). -/
def execSlli (rd rs1 : Reg) (shamt : BitVec 6) (s : State) : Answer :=
  finishReg rd (aluSll (s.reg rs1) (zext shamt)) .four s
/-- SRLI (R145). -/
def execSrli (rd rs1 : Reg) (shamt : BitVec 6) (s : State) : Answer :=
  finishReg rd (aluSrl (s.reg rs1) (zext shamt)) .four s
/-- SRAI (R146). -/
def execSrai (rd rs1 : Reg) (shamt : BitVec 6) (s : State) : Answer :=
  finishReg rd (aluSra (s.reg rs1) (zext shamt)) .four s
/-- ADD (R147). -/
def execAdd (rd rs1 rs2 : Reg) (s : State) : Answer :=
  finishReg rd (aluAdd (s.reg rs1) (s.reg rs2)) .four s
/-- SUB (R148). -/
def execSub (rd rs1 rs2 : Reg) (s : State) : Answer :=
  finishReg rd (aluSub (s.reg rs1) (s.reg rs2)) .four s
/-- SLL (R149). -/
def execSll (rd rs1 rs2 : Reg) (s : State) : Answer :=
  finishReg rd (aluSll (s.reg rs1) (s.reg rs2)) .four s
/-- SLT (R150). -/
def execSlt (rd rs1 rs2 : Reg) (s : State) : Answer :=
  finishReg rd (aluSlt (s.reg rs1) (s.reg rs2)) .four s
/-- SLTU (R151). -/
def execSltu (rd rs1 rs2 : Reg) (s : State) : Answer :=
  finishReg rd (aluSltu (s.reg rs1) (s.reg rs2)) .four s
/-- XOR (R152). -/
def execXor (rd rs1 rs2 : Reg) (s : State) : Answer :=
  finishReg rd (aluXor (s.reg rs1) (s.reg rs2)) .four s
/-- SRL (R153). -/
def execSrl (rd rs1 rs2 : Reg) (s : State) : Answer :=
  finishReg rd (aluSrl (s.reg rs1) (s.reg rs2)) .four s
/-- SRA (R154). -/
def execSra (rd rs1 rs2 : Reg) (s : State) : Answer :=
  finishReg rd (aluSra (s.reg rs1) (s.reg rs2)) .four s
/-- OR (R155). -/
def execOr (rd rs1 rs2 : Reg) (s : State) : Answer :=
  finishReg rd (aluOr (s.reg rs1) (s.reg rs2)) .four s
/-- AND (R156). -/
def execAnd (rd rs1 rs2 : Reg) (s : State) : Answer :=
  finishReg rd (aluAnd (s.reg rs1) (s.reg rs2)) .four s
/-- ADDIW (R157). -/
def execAddiw (rd rs1 : Reg) (imm : BitVec 12) (s : State) : Answer :=
  finishReg rd (aluAddw (s.reg rs1) (sext imm)) .four s
/-- SLLIW (R158). -/
def execSlliw (rd rs1 : Reg) (shamt : BitVec 5) (s : State) : Answer :=
  finishReg rd (aluSllw (s.reg rs1) (zext shamt)) .four s
/-- SRLIW (R159). -/
def execSrliw (rd rs1 : Reg) (shamt : BitVec 5) (s : State) : Answer :=
  finishReg rd (aluSrlw (s.reg rs1) (zext shamt)) .four s
/-- SRAIW (R160). -/
def execSraiw (rd rs1 : Reg) (shamt : BitVec 5) (s : State) : Answer :=
  finishReg rd (aluSraw (s.reg rs1) (zext shamt)) .four s
/-- ADDW (R161). -/
def execAddw (rd rs1 rs2 : Reg) (s : State) : Answer :=
  finishReg rd (aluAddw (s.reg rs1) (s.reg rs2)) .four s
/-- SUBW (R162). -/
def execSubw (rd rs1 rs2 : Reg) (s : State) : Answer :=
  finishReg rd (aluSubw (s.reg rs1) (s.reg rs2)) .four s
/-- SLLW (R163). -/
def execSllw (rd rs1 rs2 : Reg) (s : State) : Answer :=
  finishReg rd (aluSllw (s.reg rs1) (s.reg rs2)) .four s
/-- SRLW (R164). -/
def execSrlw (rd rs1 rs2 : Reg) (s : State) : Answer :=
  finishReg rd (aluSrlw (s.reg rs1) (s.reg rs2)) .four s
/-- SRAW (R165). -/
def execSraw (rd rs1 rs2 : Reg) (s : State) : Answer :=
  finishReg rd (aluSraw (s.reg rs1) (s.reg rs2)) .four s

end Sys2Proof.Machine
end

