-- ==== Sys2Proof/Machine/LoadsStores.lean ====
section
/-!
DEFINITION. Loads and stores (spec/46_loads_stores.md R187 to R197) on the sequential reference. There is no alignment
requirement (spec/20_memory.md R43).
-/

namespace Sys2Proof.Machine

/-- The effective address, `(a + imm) mod 2^64`. -/
def effectiveAddress (a imm : Word) : Word := a + imm

/-- LB (R187). -/
def execLb (rd rs1 : Reg) (imm : BitVec 12) (s : State) : Answer :=
  finishLoad 1 true rd (effectiveAddress (s.reg rs1) (sext imm)) .four s
/-- LH (R188). -/
def execLh (rd rs1 : Reg) (imm : BitVec 12) (s : State) : Answer :=
  finishLoad 2 true rd (effectiveAddress (s.reg rs1) (sext imm)) .four s
/-- LW (R189). -/
def execLw (rd rs1 : Reg) (imm : BitVec 12) (s : State) : Answer :=
  finishLoad 4 true rd (effectiveAddress (s.reg rs1) (sext imm)) .four s
/-- LD (R190). -/
def execLd (rd rs1 : Reg) (imm : BitVec 12) (s : State) : Answer :=
  finishLoad 8 true rd (effectiveAddress (s.reg rs1) (sext imm)) .four s
/-- LBU (R191). -/
def execLbu (rd rs1 : Reg) (imm : BitVec 12) (s : State) : Answer :=
  finishLoad 1 false rd (effectiveAddress (s.reg rs1) (sext imm)) .four s
/-- LHU (R192). -/
def execLhu (rd rs1 : Reg) (imm : BitVec 12) (s : State) : Answer :=
  finishLoad 2 false rd (effectiveAddress (s.reg rs1) (sext imm)) .four s
/-- LWU (R193). -/
def execLwu (rd rs1 : Reg) (imm : BitVec 12) (s : State) : Answer :=
  finishLoad 4 false rd (effectiveAddress (s.reg rs1) (sext imm)) .four s
/-- SB (R194). -/
def execSb (rs2 rs1 : Reg) (imm : BitVec 12) (s : State) : Answer :=
  finishStore 1 (s.reg rs2) (effectiveAddress (s.reg rs1) (sext imm)) .four s
/-- SH (R195). -/
def execSh (rs2 rs1 : Reg) (imm : BitVec 12) (s : State) : Answer :=
  finishStore 2 (s.reg rs2) (effectiveAddress (s.reg rs1) (sext imm)) .four s
/-- SW (R196). -/
def execSw (rs2 rs1 : Reg) (imm : BitVec 12) (s : State) : Answer :=
  finishStore 4 (s.reg rs2) (effectiveAddress (s.reg rs1) (sext imm)) .four s
/-- SD (R197). -/
def execSd (rs2 rs1 : Reg) (imm : BitVec 12) (s : State) : Answer :=
  finishStore 8 (s.reg rs2) (effectiveAddress (s.reg rs1) (sext imm)) .four s

end Sys2Proof.Machine
end

