-- ==== Sys2Proof/Machine/MulDiv.lean ====
section
/-!
DEFINITION. Integer multiply and divide (spec/44_muldiv.md R166 to R178). Each result is computed exactly on integers
and narrowed at the end; division never traps.
-/

namespace Sys2Proof.Machine

/-! ## What each instruction computes -/

/-- `(a · b) mod 2^64` (R166) -/
def mulLow (a b : Word) : Word := BitVec.ofNat 64 (a.toNat * b.toNat)
/-- `floor((s64(a) · s64(b)) / 2^64) mod 2^64` (R167) -/
def mulHighSS (a b : Word) : Word := BitVec.ofInt 64 ((a.toInt * b.toInt).fdiv (2 ^ 64))
/-- `floor((s64(a) · b) / 2^64) mod 2^64` (R168) -/
def mulHighSU (a b : Word) : Word := BitVec.ofInt 64 ((a.toInt * (b.toNat : Int)).fdiv (2 ^ 64))
/-- `floor((a · b) / 2^64)` (R169) -/
def mulHighUU (a b : Word) : Word := BitVec.ofNat 64 (a.toNat * b.toNat / 2 ^ 64)
/-- Signed quotient rounded toward zero; by zero all ones; −2^63 / −1 gives the dividend (R170) -/
def divS (a b : Word) : Word :=
  if b = 0 then BitVec.allOnes 64
  else if a.toInt = -2 ^ 63 ∧ b.toInt = -1 then a
  else BitVec.ofInt 64 (a.toInt.tdiv b.toInt)
/-- Unsigned quotient; by zero all ones (R171) -/
def divU (a b : Word) : Word := if b = 0 then BitVec.allOnes 64 else BitVec.ofNat 64 (a.toNat / b.toNat)
/-- Signed remainder, with the sign of the dividend; by zero the dividend; −2^63 rem −1 gives 0 (R172) -/
def remS (a b : Word) : Word :=
  if b = 0 then a
  else if a.toInt = -2 ^ 63 ∧ b.toInt = -1 then 0
  else BitVec.ofInt 64 (a.toInt - a.toInt.tdiv b.toInt * b.toInt)
/-- Unsigned remainder; by zero the dividend (R173) -/
def remU (a b : Word) : Word := if b = 0 then a else BitVec.ofNat 64 (a.toNat % b.toNat)
/-- `sext_32(((a · b) mod 2^64)[31:0])` (R174) -/
def mulW (a b : Word) : Word := sext (low32 (mulLow a b))
/-- 32-bit signed quotient, sign-extended (R175) -/
def divWS (a b : Word) : Word :=
  let x := (low32 a).toInt
  let y := (low32 b).toInt
  if y = 0 then BitVec.allOnes 64
  else if x = -2 ^ 31 ∧ y = -1 then sext (0x80000000#32)
  else sext (BitVec.ofInt 32 (x.tdiv y))
/-- 32-bit unsigned quotient, sign-extended from bit 31 (R176) -/
def divWU (a b : Word) : Word :=
  let x := (low32 a).toNat
  let y := (low32 b).toNat
  if y = 0 then BitVec.allOnes 64 else sext (BitVec.ofNat 32 (x / y))
/-- 32-bit signed remainder, sign-extended (R177) -/
def remWS (a b : Word) : Word :=
  let x := (low32 a).toInt
  let y := (low32 b).toInt
  if y = 0 then sext (low32 a)
  else if x = -2 ^ 31 ∧ y = -1 then 0
  else sext (BitVec.ofInt 32 (x - x.tdiv y * y))
/-- 32-bit unsigned remainder, sign-extended from bit 31 (R178) -/
def remWU (a b : Word) : Word :=
  let x := (low32 a).toNat
  let y := (low32 b).toNat
  if y = 0 then sext (low32 a) else sext (BitVec.ofNat 32 (x % y))

/-! ## The instructions -/

/-- MUL (R166). -/
def execMul (rd rs1 rs2 : Reg) (s : State) : Answer :=
  finishReg rd (mulLow (s.reg rs1) (s.reg rs2)) .four s
/-- MULH (R167). -/
def execMulh (rd rs1 rs2 : Reg) (s : State) : Answer :=
  finishReg rd (mulHighSS (s.reg rs1) (s.reg rs2)) .four s
/-- MULHSU (R168). -/
def execMulhsu (rd rs1 rs2 : Reg) (s : State) : Answer :=
  finishReg rd (mulHighSU (s.reg rs1) (s.reg rs2)) .four s
/-- MULHU (R169). -/
def execMulhu (rd rs1 rs2 : Reg) (s : State) : Answer :=
  finishReg rd (mulHighUU (s.reg rs1) (s.reg rs2)) .four s
/-- DIV (R170). -/
def execDiv (rd rs1 rs2 : Reg) (s : State) : Answer :=
  finishReg rd (divS (s.reg rs1) (s.reg rs2)) .four s
/-- DIVU (R171). -/
def execDivu (rd rs1 rs2 : Reg) (s : State) : Answer :=
  finishReg rd (divU (s.reg rs1) (s.reg rs2)) .four s
/-- REM (R172). -/
def execRem (rd rs1 rs2 : Reg) (s : State) : Answer :=
  finishReg rd (remS (s.reg rs1) (s.reg rs2)) .four s
/-- REMU (R173). -/
def execRemu (rd rs1 rs2 : Reg) (s : State) : Answer :=
  finishReg rd (remU (s.reg rs1) (s.reg rs2)) .four s
/-- MULW (R174). -/
def execMulw (rd rs1 rs2 : Reg) (s : State) : Answer :=
  finishReg rd (mulW (s.reg rs1) (s.reg rs2)) .four s
/-- DIVW (R175). -/
def execDivw (rd rs1 rs2 : Reg) (s : State) : Answer :=
  finishReg rd (divWS (s.reg rs1) (s.reg rs2)) .four s
/-- DIVUW (R176). -/
def execDivuw (rd rs1 rs2 : Reg) (s : State) : Answer :=
  finishReg rd (divWU (s.reg rs1) (s.reg rs2)) .four s
/-- REMW (R177). -/
def execRemw (rd rs1 rs2 : Reg) (s : State) : Answer :=
  finishReg rd (remWS (s.reg rs1) (s.reg rs2)) .four s
/-- REMUW (R178). -/
def execRemuw (rd rs1 rs2 : Reg) (s : State) : Answer :=
  finishReg rd (remWU (s.reg rs1) (s.reg rs2)) .four s

end Sys2Proof.Machine
end

