-- ==== Sys2Proof/Machine/ComputeUnit.lean ====
section
/-!
DEFINITION. The ComputeUnit (spec/00_scope.md R12, R13, spec/40_pipeline_cycle.md R87): the pure function
`Compute_op(pc, len, imm, a, b) -> (result, store, taken, target)` of every instruction tag. A field the function does
not name is 0 or false (R12). After it, the parameters of the block (R10, 92_eei_decisions.md D1): a Decoder, a
ComputeUnit and a MemoryBus.
-/

namespace Sys2Proof.Machine

/-- What the ComputeUnit answers (R13). -/
structure ComputeOut where
  result : Word
  store : Word
  taken : Bool
  target : Word
deriving DecidableEq, Repr

/-- Only a result. -/
def resultOnly (v : Word) : ComputeOut := ⟨v, 0, false, 0⟩

/-- A conditional branch (R181 to R186): its condition and `target = (pc + imm) mod 2^64`. -/
def branchOut (taken : Bool) (pc imm : Word) : ComputeOut := ⟨0, 0, taken, pc + imm⟩

/-- A jump (R179, R180): the link value and the target. -/
def jumpOut (pc : Word) (len : Len) (target : Word) : ComputeOut := ⟨pc + len.word, 0, true, target⟩

/-- A store (R194 to R197): the effective address and the store value. -/
def storeOut (a imm b : Word) : ComputeOut := ⟨effectiveAddress a imm, b, false, 0⟩

/-- `Compute_op(pc, len, imm, a, b)`. -/
def compute (op : Op) (pc : Word) (len : Len) (imm a b : Word) : ComputeOut :=
  match op with
  | .lui => resultOnly imm
  | .auipc => resultOnly (pc + imm)
  | .addi => resultOnly (aluAdd a imm)
  | .slti => resultOnly (aluSlt a imm)
  | .sltiu => resultOnly (aluSltu a imm)
  | .xori => resultOnly (aluXor a imm)
  | .ori => resultOnly (aluOr a imm)
  | .andi => resultOnly (aluAnd a imm)
  | .slli => resultOnly (aluSll a imm)
  | .srli => resultOnly (aluSrl a imm)
  | .srai => resultOnly (aluSra a imm)
  | .add => resultOnly (aluAdd a b)
  | .sub => resultOnly (aluSub a b)
  | .sll => resultOnly (aluSll a b)
  | .slt => resultOnly (aluSlt a b)
  | .sltu => resultOnly (aluSltu a b)
  | .xor => resultOnly (aluXor a b)
  | .srl => resultOnly (aluSrl a b)
  | .sra => resultOnly (aluSra a b)
  | .or => resultOnly (aluOr a b)
  | .and => resultOnly (aluAnd a b)
  | .addiw => resultOnly (aluAddw a imm)
  | .slliw => resultOnly (aluSllw a imm)
  | .srliw => resultOnly (aluSrlw a imm)
  | .sraiw => resultOnly (aluSraw a imm)
  | .addw => resultOnly (aluAddw a b)
  | .subw => resultOnly (aluSubw a b)
  | .sllw => resultOnly (aluSllw a b)
  | .srlw => resultOnly (aluSrlw a b)
  | .sraw => resultOnly (aluSraw a b)
  | .mul => resultOnly (mulLow a b)
  | .mulh => resultOnly (mulHighSS a b)
  | .mulhsu => resultOnly (mulHighSU a b)
  | .mulhu => resultOnly (mulHighUU a b)
  | .div => resultOnly (divS a b)
  | .divu => resultOnly (divU a b)
  | .rem => resultOnly (remS a b)
  | .remu => resultOnly (remU a b)
  | .mulw => resultOnly (mulW a b)
  | .divw => resultOnly (divWS a b)
  | .divuw => resultOnly (divWU a b)
  | .remw => resultOnly (remWS a b)
  | .remuw => resultOnly (remWU a b)
  | .jal => jumpOut pc len (pc + imm)
  | .jalr => jumpOut pc len (jalrTarget a imm)
  | .beq => branchOut (condEq a b) pc imm
  | .bne => branchOut (condNe a b) pc imm
  | .blt => branchOut (condLt a b) pc imm
  | .bge => branchOut (condGe a b) pc imm
  | .bltu => branchOut (condLtu a b) pc imm
  | .bgeu => branchOut (condGeu a b) pc imm
  | .lb | .lh | .lw | .ld | .lbu | .lhu | .lwu => resultOnly (effectiveAddress a imm)
  | .sb | .sh | .sw | .sd => storeOut a imm b
  | .fence | .fenceI | .ecall | .ebreak | .other _ => resultOnly 0

/-! ## The parameters of the block -/

/-- The parameters of the block (R5, R10; log entry 19): the Decoder, the ComputeUnit and the MemoryBus. The host, the
fourth, is `Platform.host`. -/
structure Units where
  /-- the Decoder: a record or a DecodeError, from the word and its width alone (R56) -/
  decode : InstWord → Len → Except DecodeError Decoded
  /-- the ComputeUnit: the outputs of an instruction tag, from pc, len, imm and the two operand values (R13) -/
  compute : Op → Word → Len → Word → Word → Word → ComputeOut
  /-- the MemoryBus -/
  bus : MemoryBus

/-- The reference Decoder (R56): the decoded record of the instruction the word is. -/
def decodeRecord (word : InstWord) (len : Len) : Except DecodeError Decoded :=
  match decode word len with
  | .ok i => .ok (recordOf i)
  | .error e => .error e

/-- The reference instantiation of all three (R2), the default of every function that takes `Units`. -/
def Units.reference : Units where
  decode := decodeRecord
  compute := Sys2Proof.Machine.compute
  bus := .reference

end Sys2Proof.Machine
end

