-- ==== Sys2Proof/Machine/Predictor.lean ====
section
/-!
DEFINITION. The branch predictor and the return-address stack (spec/42_branch_prediction.md R124 to R133).
-/

namespace Sys2Proof.Machine

/-- The counter `CT[i]`: `initCounter` where nothing has trained it (R31). -/
def State.counter (s : State) (i : Nat) : Nat := sparseRead s.cfg.initCounter s.counters i

/-- The counter index of a conditional branch at `pc` (R125); none for Static. -/
def State.predictIndex (s : State) (pc : Word) : Option Nat :=
  match s.cfg.predictor with
  | .bimodal => some (pc.toNat / 2 % 2 ^ s.cfg.tableBits)
  | .gshare => some ((pc.toNat / 2 ^^^ s.ghr) % 2 ^ s.cfg.tableBits)
  | .static | .unsupported => none

/-- `predict(pc)` (R126): the direction and the index; it changes no state. -/
def State.predict (s : State) (pc : Word) : Bool × Option Nat :=
  match s.predictIndex pc with
  | some i => (decide (2 ^ (s.cfg.counterBits - 1) ≤ s.counter i), some i)
  | none => (false, none)

/-- The saturating counter after one outcome (R127). -/
def trainCounter (counterBits c : Nat) (taken : Bool) : Nat :=
  if taken then min (c + 1) (2 ^ counterBits - 1) else c - 1

/-- The global history after one outcome (R127). -/
def shiftHistory (tableBits ghr : Nat) (taken : Bool) : Nat := (2 * ghr + taken.toNat) % 2 ^ tableBits

/-- `update(i, t)` (R127): trains the counter at the index recorded at fetch, and shifts the history for Gshare. -/
def State.train (s : State) (i : Option Nat) (taken : Bool) : State :=
  match i with
  | none => s
  | some i =>
    { s with
      counters := sparseWrite s.cfg.initCounter s.counters i (trainCounter s.cfg.counterBits (s.counter i) taken)
      ghr := if s.cfg.predictor = .gshare then shiftHistory s.cfg.tableBits s.ghr taken else s.ghr }

/-- A call (R131): JAL or JALR with `rd = x1`. -/
def Decoded.isCall (d : Decoded) : Bool := (d.op == .jal || d.op == .jalr) && d.rd == 1

/-- A return (R131): JALR with `rd = x0` and `rs1 = x1`, whatever its immediate. -/
def Decoded.isReturn (d : Decoded) : Bool := d.op == .jalr && d.rd == 0 && d.rs1 == 1

/-- The stack after a push (R132): with more than `depth` entries the oldest is dropped. -/
def pushReturn (depth : Nat) (stack : List Word) (v : Word) : List Word := (v :: stack).take depth

/-- The stack after the call or return `u` resolves (R132). -/
def State.updateRas (s : State) (u : MicroOp) : State :=
  if u.flag Decoded.isCall then { s with rasStack := pushReturn s.cfg.rasDepth s.rasStack u.nextPc }
  else if u.flag Decoded.isReturn then { s with rasStack := s.rasStack.tail }
  else s

/-- `u` with Fetch following it to `target` (R129). -/
def MicroOp.follow (u : MicroOp) (target : Word) : MicroOp := { u with predTaken := true, predTarget := target }

/-- The prediction fields Fetch fills for a micro-op with the decoded record `d` (R129). -/
def State.predictDecoded (s : State) (u : MicroOp) (d : Decoded) : MicroOp :=
  if d.isBranch then
    let u' := { u with dirPred := (s.predict u.pc).1, predIdx := (s.predict u.pc).2 }
    if s.cfg.ebr && (s.predict u.pc).1 then u'.follow (u.pc + d.imm) else u'
  else if s.cfg.ebr && d.op == .jal then u.follow (u.pc + d.imm)
  else if s.cfg.ebr && s.cfg.ras && d.isReturn then
    match s.rasStack with
    | top :: _ => u.follow top
    | [] => u
  else u

/-- `Predict(u)` of R76: only a micro-op with a decoded record is predicted (R129). -/
def State.predictOp (s : State) (u : MicroOp) : MicroOp :=
  match u.dec with
  | some d => s.predictDecoded u d
  | none => u

end Sys2Proof.Machine
end

