-- ==== Sys2Proof/Machine/FetchStage.lean ====
section
/-!
DEFINITION. FetchStage (spec/40_pipeline_cycle.md R74 to R81), and the fetch of one instruction's bytes that it shares
with the sequential reference (R57, R264 item 1).
-/

namespace Sys2Proof.Machine

/-- What fetching at an address gives: an instruction's width and word, or nothing when a parcel of it is outside the
memory region (R78). -/
def State.fetchWord (s : State) (a : Word) (bus : MemoryBus := .reference) : Option (Len × InstWord) :=
  if s.inRange a 2 bus then
    match lenOfParcel (BitVec.ofNat 16 (s.memRead a 2 bus)) with
    | .two => some (.two, BitVec.ofNat 32 (s.memRead a 2 bus))
    | .four => if s.inRange a 4 bus then some (.four, BitVec.ofNat 32 (s.memRead a 4 bus)) else none
  else none

/-- The micro-op of an address with no content yet (the reset values of R77). -/
def blankOp (a : Word) : MicroOp where
  pc := a
  len := .two
  word := 0
  dec := none
  fault := none
  predTaken := false
  predTarget := 0
  dirPred := false
  predIdx := none
  srcA := .val 0
  srcB := .val 0
  fusedPrev := false
  result := 0
  store := 0
  taken := false
  target := 0

/-- `NewMicroOp(a, len, word)` (R77): the Decoder is evaluated here; what it refuses becomes a pending error. -/
def newMicroOp (a : Word) (len : Len) (word : InstWord) (units : Units := .reference) : MicroOp :=
  match units.decode word len with
  | .ok d => { blankOp a with len := len, word := word, dec := some d }
  | .error _ => { blankOp a with len := len, word := word, fault := some (.illegalInstruction a word) }

/-- `FaultSlot(a)` (R78). -/
def faultSlot (a : Word) : MicroOp := { blankOp a with fault := some (.fetchFault a) }

/-- The fetch window `FB = floor(4 · W · R)` in bytes (R75). -/
def Config.fetchBytes (c : Config) : Nat := 4 * c.width * c.ratioNum / c.ratioDen

/-- `Fetch_Run` (R76) with `lanes` lanes left, at address `a`, `used` bytes of the window used: the micro-ops fetched
and where Fetch goes on. The first parcel's range, then the window, then the second parcel's range. -/
def fetchLanes (s : State) (window lanes : Nat) (a : Word) (used : Nat) (units : Units := .reference) :
    List MicroOp × Word :=
  match lanes with
  | 0 => ([], a)
  | lanes + 1 =>
    if s.inRange a 2 units.bus then
      let len := lenOfParcel (BitVec.ofNat 16 (s.memRead a 2 units.bus))
      if window < used + len.bytes then ([], a)
      else
        match s.fetchWord a units.bus with
        | none => ([faultSlot a], a)
        | some (len, word) =>
          let u := s.predictOp (newMicroOp a len word units)
          if u.predTaken then ([u], u.predTarget)
          else
            let rest := fetchLanes s window lanes (a + len.word) (used + len.bytes) units
            (u :: rest.1, rest.2)
    else ([faultSlot a], a)

/-- Fetch in `Run` mode (R76, R81). -/
def State.fetchRun (s : State) (units : Units := .reference) : State :=
  let f := fetchLanes s (Config.fetchBytes s.cfg) s.cfg.width s.pc 0 units
  { s with ifid := ⟨packLanes s.cfg.width f.1, false⟩, pc := f.2 }

/-- FetchStage (R74): `Hold` re-presents IFID, `Bubble` empties it, `Run` builds a new bundle. -/
def State.fetchStage (s : State) (units : Units := .reference) : State :=
  match s.fetchMode with
  | .hold => { s with ifid := { s.ifid with isStalled := true } }
  | .bubble => { s with ifid := s.ifid.cleared }
  | .run => s.fetchRun units

end Sys2Proof.Machine
end

