-- ==== Sys2Proof/Machine/Launch.lean ====
section
/-!
DEFINITION. The construction of a run: the checks of spec/60_exceptions.md R240 in their order, and the launch state of
spec/70_reset_and_hazards.md R261.
-/

namespace Sys2Proof.Machine

/-- The first check of R240 that the configuration and the platform fail; none when they are valid. Check 8 (`budget` is
a natural number) holds by its type. -/
def configError (c : Config) (p : Platform) : Option ConfigField :=
  if ¬ (1 ≤ c.width ∧ c.width ≤ 32) then some .w
  else if ¬ (0 < c.ratioNum ∧ 0 < c.ratioDen ∧ 4 ≤ Config.fetchBytes c) then some .r
  else if c.predictor = .unsupported then some .predictor
  else if ¬ (1 ≤ c.counterBits ∧ c.counterBits ≤ 8) then some .n
  else if ¬ (1 ≤ c.tableBits ∧ c.tableBits ≤ 16) then some .tb
  else if ¬ (c.initCounter < 2 ^ c.counterBits) then some .initCounter
  else if c.dbf then some .dbf
  else if ¬ (1 ≤ c.rasDepth ∧ c.rasDepth ≤ 64) then some .rasd
  else if ¬ (1 ≤ p.memSize ∧ p.memBase + p.memSize ≤ 2 ^ 64) then some .memSize
  else if p.entry.toNat % 2 ≠ 0 then some .entry
  else none

/-- The launch image in the canonical form of memory; only bytes of the memory region are in it (R21). -/
def launchImage (p : Platform) (image : List Host.Cell) : Memory := applyMemWrites p [] image

/-- The launch registers: 0 where the launch gives none, and x0 is 0 whatever it gives (R261). -/
def launchRegs (given : List (Reg × Word)) : Vector Word 32 := applyRegWrites (Vector.replicate 32 0) given

/-- Launches a run (R240, R261): the state before its first cycle, or the field of the ConfigurationError. -/
def launch (engine : Engine) (c : Config) (p : Platform) (regs : List (Reg × Word)) (image : List Host.Cell) :
    Except ConfigField State :=
  match configError c p with
  | some field => .error field
  | none => .ok (State.initial engine c p (launchRegs regs) (launchImage p image))

end Sys2Proof.Machine
end

