-- ==== Sys2Proof/Machine/DecodeStage.lean ====
section
/-!
DEFINITION. DecodeStage and the hazard units it asks (spec/40_pipeline_cycle.md R82 to R84,
spec/41_hazards_and_flush.md R100 to R111): the split point, macro-op fusion, forwarding and the load-use stall.
-/

namespace Sys2Proof.Machine

/-! ## Producers and consumers (R100 to R102) -/

/-- `u` is a producer of register `r` (R100). -/
def MicroOp.produces (u : MicroOp) (r : Reg) : Bool :=
  u.clean && r != 0 && u.flag fun d => d.regWrite && d.rd == r

/-- The register `u` reads through operand A (R101); none when it reads none or names x0. -/
def MicroOp.readsA (u : MicroOp) : Option Reg :=
  match u.dec with
  | some d => if u.clean && d.readsRs1 && d.rs1 != 0 then some d.rs1 else none
  | none => none

/-- The register `u` reads through operand B (R101). -/
def MicroOp.readsB (u : MicroOp) : Option Reg :=
  match u.dec with
  | some d => if u.clean && d.readsRs2 && d.rs2 != 0 then some d.rs2 else none
  | none => none

/-- `u` is serialising (R102): ECALL, EBREAK, FENCE.I, or a micro-op with a pending error. -/
def MicroOp.serialising (u : MicroOp) : Bool := !u.clean || u.flag Decoded.serial

/-- The youngest producer of `r` in a list of lanes, with its lane number: the highest lane first (R103, R105). The
first lane of the list is lane `i`. -/
def youngestFrom (r : Reg) : Nat → Lanes → Option (Nat × MicroOp)
  | _, [] => none
  | i, slot :: rest =>
    match youngestFrom r (i + 1) rest with
    | some found => some found
    | none =>
      match slot with
      | some u => if u.produces r then some (i, u) else none
      | none => none

/-- The youngest producer of `r` among all the lanes of a latch. -/
def youngest (r : Reg) (lanes : Lanes) : Option (Nat × MicroOp) := youngestFrom r 0 lanes

/-! ## Macro-op fusion (R110) -/

/-- The two decoded records match a fusible pattern (R110). -/
def fusiblePattern (p q : Decoded) : Bool :=
  p.rd != 0 && q.rd == p.rd && q.rs1 == p.rd &&
    ((p.op == .lui && (q.op == .addi || q.op == .addiw)) ||
      (p.op == .auipc && q.op == .addi) ||
      (p.op == .slli && p.imm == 32 && q.op == .srli && q.imm == 32))

/-- Adjacent micro-ops form a fusible pair: neither has a pending error, and their records match a pattern (R110). -/
def fusiblePair (p q : MicroOp) : Bool :=
  match p.dec, q.dec with
  | some dp, some dq => p.clean && q.clean && fusiblePattern dp dq
  | _, _ => false

/-! ## The split point (R103) -/

/-- How an operand of a lane stands to the older lanes of its bundle (R103). -/
inductive LaneSource where
  /-- no older lane of the bundle produces the register: look in the latches and the register file (R105) -/
  | outside
  /-- lane `j` is the permitted same-cycle source -/
  | lane (j : Nat)
  /-- the youngest older producer is not permitted: the bundle splits before this lane -/
  | split
deriving DecidableEq, Repr

/-- Where the register an operand reads is produced among the older lanes of the bundle (R103 item 2). `fused` says
that this lane is the second of a fused pair, whose first is the last lane of `older`. -/
def laneSource (cfg : Config) (older : List MicroOp) (fused : Bool) (reads : Option Reg) : LaneSource :=
  match reads with
  | none => .outside
  | some r =>
    match youngest r (older.map some) with
    | none => .outside
    | some (j, q) =>
      if q.flag Decoded.isLoad then .split
      else if cfg.cascade || (fused && j + 1 == older.length) then .lane j
      else .split

/-- A lane that Decode may issue, with where its operands come from inside the bundle. -/
structure Planned where
  op : MicroOp
  laneA : LaneSource
  laneB : LaneSource
deriving DecidableEq, Repr

/-- The lanes before the split point `k*`, in order (R103, R110). `older` are the lanes before this one, oldest first,
and `prevFused` says that the last of them is the second of a fused pair. -/
def planLanes (cfg : Config) : List MicroOp → Bool → Lanes → List Planned
  | _, _, [] => []
  | _, _, none :: _ => []
  | older, prevFused, some u :: rest =>
    let fused := cfg.fusion && !prevFused && older.getLast?.any fun p => fusiblePair p u
    let a := laneSource cfg older fused u.readsA
    let b := laneSource cfg older fused u.readsB
    if (older.getLast?.any MicroOp.serialising) || a = .split || b = .split then []
    else ⟨{ u with fusedPrev := fused }, a, b⟩ :: planLanes cfg (older ++ [u]) fused rest

/-! ## Forwarding (R105) -/

/-- Resolves an operand that reads `r` outside the bundle (R105): EXMEM, then MEMWB, then the register file, each
youngest first. `none` means that the lane must wait for a load (R107). -/
def State.forward (s : State) (r : Reg) : Option Source :=
  match youngest r s.exmem.lanes with
  | some (_, q) => if q.flag Decoded.isLoad then none else some (.val q.result)
  | none =>
    match youngest r s.memwb.lanes with
    | some (_, q) => some (.val q.result)
    | none => some (.val (s.reg r))

/-- Resolves one operand of a planned lane (R101, R103, R105); `none` means wait. -/
def State.resolve (s : State) (reads : Option Reg) (l : LaneSource) : Option Source :=
  match reads, l with
  | none, _ => some (.val 0)
  | some _, .lane j => some (.lane j)
  | some r, _ => s.forward r

/-- A planned lane with its operands resolved, or `none` if it must wait. -/
def State.resolveLane (s : State) (p : Planned) : Option MicroOp :=
  match s.resolve p.op.readsA p.laneA, s.resolve p.op.readsB p.laneB with
  | some a, some b => some { p.op with srcA := a, srcB := b }
  | _, _ => none

/-- Every planned lane resolved, or `none` if some lane must wait (R83, R107). -/
def State.resolveAll (s : State) : List Planned → Option (List MicroOp)
  | [] => some []
  | p :: rest =>
    match s.resolveLane p, s.resolveAll rest with
    | some u, some us => some (u :: us)
    | _, _ => none

/-! ## DecodeStage -/

/-- The load-use stall (R107): bubbles into IDEX, Fetch holds, IFID and `pc` stay. -/
def State.stallDecode (s : State) : State :=
  { s.count (fun m => { m with stalls := m.stalls + 1 }) with
    idex := s.idex.cleared
    fetchMode := .hold }

/-- Issue of the lanes before the split point (R84). When lanes are left over they are fetched again: `pc` goes back
to the first of them, and a split is counted. -/
def State.issue (s : State) (ops : List MicroOp) : State :=
  let s' := { s with idex := s.idex.withLanes (packLanes s.cfg.width ops) }
  match s.ifid.lanes[ops.length]? with
  | some (some u) => (s'.setPc u.pc).count fun m => { m with splits := m.splits + 1 }
  | _ => s'

/-- DecodeStage (R82 to R84). With an empty IFID nothing is planned, and IDEX gets bubbles. -/
def State.decodeStage (s : State) : State :=
  match s.resolveAll (planLanes s.cfg [] false s.ifid.lanes) with
  | some ops => s.issue ops
  | none => s.stallDecode

end Sys2Proof.Machine
end

