-- ==== Sys2Proof/Machine/ExecuteStage.lean ====
section
/-!
DEFINITION. ExecuteStage (spec/40_pipeline_cycle.md R85 to R88) and the ControlHazardUnit that runs right after it
(spec/41_hazards_and_flush.md R112 to R115).
-/

namespace Sys2Proof.Machine

/-! ## Execute -/

/-- The value of an operand (R86): `done` are the results of the older lanes of this Execute. -/
def operandValue (done : Lanes) : Source → Word
  | .val v => v
  | .lane j =>
    match done[j]? with
    | some (some q) => q.result
    | _ => 0

/-- One micro-op through Execute (R85, R87). A micro-op with a pending error is copied unchanged. -/
def executeOp (done : Lanes) (u : MicroOp) (units : Units := .reference) : MicroOp :=
  match u.fault, u.dec with
  | none, some d =>
    let o := units.compute d.op u.pc u.len d.imm (operandValue done u.srcA) (operandValue done u.srcB)
    { u with result := o.result, store := o.store, taken := o.taken, target := o.target }
  | _, _ => u

/-- The lanes of EXMEM from the lanes of IDEX, in ascending order (R85); `done` are those already made. -/
def executeLanes (done lanes : Lanes) (units : Units := .reference) : Lanes :=
  match lanes with
  | [] => done
  | slot :: rest => executeLanes (done ++ [slot.map fun u => executeOp done u units]) rest units

/-- ExecuteStage. -/
def State.executeStage (s : State) (units : Units := .reference) : State :=
  { s with exmem := s.exmem.withLanes (executeLanes [] s.idex.lanes units) }

/-! ## The ControlHazardUnit -/

/-- The followed next pc (R112): where Fetch continued after the micro-op. -/
def MicroOp.followedPc (u : MicroOp) : Word := if u.predTaken then u.predTarget else u.nextPc

/-- The actual next pc (R112). -/
def MicroOp.actualPc (u : MicroOp) : Word := if u.taken then u.target else u.nextPc

/-- Item 1 of R113: a conditional branch is counted and trains the predictor. -/
def State.resolveBranch (s : State) (u : MicroOp) : State :=
  if u.flag Decoded.isBranch then
    (s.count fun m =>
      { m with
        condBranches := m.condBranches + 1
        dirCorrect := if u.dirPred = u.taken then m.dirCorrect + 1 else m.dirCorrect }).train u.predIdx u.taken
  else s

/-- Items 1 and 2 of R113. -/
def State.resolveControl (s : State) (u : MicroOp) : State :=
  if s.cfg.ras then (s.resolveBranch u).updateRas u else s.resolveBranch u

/-- The flush of a mismatch (R114), but for the lanes of EXMEM: IDEX and IFID are cleared, `pc` is the actual next pc,
and with `ebr` false the next Fetch is suppressed. -/
def State.redirect (s : State) (u : MicroOp) : State :=
  let s' := (s.clearFront.setPc u.actualPc).count fun m =>
    { m with flushes := m.flushes + 1, mispredicts := m.mispredicts + 1 }
  { s' with fetchMode := if s.cfg.ebr then s.fetchMode else .bubble }

/-- The ControlHazardUnit on the lanes of EXMEM, in order (R113): the lanes it leaves and the state. It stops at the
first mismatch, whose younger lanes become bubbles (R114). -/
def hazardLanes : Lanes → State → Lanes × State
  | [], s => ([], s)
  | none :: rest, s =>
    let r := hazardLanes rest s
    (none :: r.1, r.2)
  | some u :: rest, s =>
    if u.clean then
      if u.actualPc = u.followedPc then
        let r := hazardLanes rest (s.resolveControl u)
        (some u :: r.1, r.2)
      else (some u :: bubbles rest.length, (s.resolveControl u).redirect u)
    else
      let r := hazardLanes rest s
      (some u :: r.1, r.2)

/-- The ControlHazardUnit. -/
def State.controlHazard (s : State) : State :=
  let r := hazardLanes s.exmem.lanes s
  { r.2 with exmem := r.2.exmem.withLanes r.1 }

end Sys2Proof.Machine
end

