-- ==== Sys2Proof/Machine/MemoryStage.lean ====
section
/-!
DEFINITION. MemoryStage (spec/40_pipeline_cycle.md R89 to R91): loads and stores in lane order, the pending MemoryFault,
and the store-snoop flush.
-/

namespace Sys2Proof.Machine

/-- The store of `n` bytes at `ea` shares a byte with the instruction bytes of `v`, as integer intervals (R91). -/
def MicroOp.overlaps (v : MicroOp) (ea n : Nat) : Bool :=
  decide (ea < v.pc.toNat + v.len.bytes) && decide (v.pc.toNat < ea + n)

/-- Some valid slot of the lanes holds an instruction the store writes into (R91). -/
def snoopHit (ea n : Nat) (lanes : Lanes) : Bool := lanes.any fun slot => slot.any fun v => v.overlaps ea n

/-- The size of a micro-op's access. -/
def MicroOp.memBytes (u : MicroOp) : Nat :=
  match u.dec with
  | some d => d.memBytes
  | none => 0

/-- A load that is in range, with the data in `result` (R89). -/
def State.loadOp (s : State) (u : MicroOp) (bus : MemoryBus := .reference) : MicroOp :=
  { u with result := extendLoad u.memBytes (u.flag Decoded.memSigned) (s.memRead u.result u.memBytes bus) }

/-- A load or store that is not in range, with its pending error (R89, R90). -/
def faultOp (u : MicroOp) : MicroOp := { u with fault := some (.memoryFault u.pc u.result) }

/-- The store-snoop flush after the store `u` (R91), but for the lanes of MEMWB. -/
def State.snoopFlush (s : State) (u : MicroOp) : State :=
  (s.clearFront.setPc u.nextPc).count fun m => { m with flushes := m.flushes + 1 }

/-- The lanes of MEMWB from the lanes of EXMEM, in ascending order, and the state after their accesses (R89). A fault
or a store-snoop flush ends the stage: every younger lane becomes a bubble and accesses nothing (R90, R91). -/
def memoryLanes (lanes : Lanes) (s : State) (bus : MemoryBus := .reference) : Lanes × State :=
  match lanes with
  | [] => ([], s)
  | none :: rest =>
    let r := memoryLanes rest s bus
    (none :: r.1, r.2)
  | some u :: rest =>
    if u.clean && u.flag Decoded.isLoad then
      if s.inRange u.result u.memBytes bus then
        let r := memoryLanes rest s bus
        (some (s.loadOp u bus) :: r.1, r.2)
      else (some (faultOp u) :: bubbles rest.length, s)
    else if u.clean && u.flag Decoded.isStore then
      if s.inRange u.result u.memBytes bus then
        let s' := s.memWrite u.result u.memBytes u.store bus
        if snoopHit u.result.toNat u.memBytes (rest ++ s.idex.lanes ++ s.ifid.lanes) then
          (some u :: bubbles rest.length, s'.snoopFlush u)
        else
          let r := memoryLanes rest s' bus
          (some u :: r.1, r.2)
      else (some (faultOp u) :: bubbles rest.length, s)
    else
      let r := memoryLanes rest s bus
      (some u :: r.1, r.2)

/-- MemoryStage. -/
def State.memoryStage (s : State) (bus : MemoryBus := .reference) : State :=
  let r := memoryLanes s.exmem.lanes s bus
  { r.2 with memwb := r.2.memwb.withLanes r.1 }

end Sys2Proof.Machine
end

