-- ==== Sys2Proof/Machine/WritebackStage.lean ====
section
/-!
DEFINITION. WritebackStage (spec/40_pipeline_cycle.md R92 to R99): commit in lane order, the pending errors, EBREAK,
ECALL, and the serialising flush.
-/

namespace Sys2Proof.Machine

/-- The counters of a committed micro-op (R95): the second of a fused pair does not count in `committed`. -/
def State.countRetired (s : State) (u : MicroOp) : State :=
  s.count fun m =>
    { m with
      isaRetired := m.isaRetired + 1
      committed := if u.fusedPrev then m.committed else m.committed + 1 }

/-- The register commit (R94). -/
def State.commitReg (s : State) (u : MicroOp) : State :=
  match u.dec with
  | some d => if d.regWrite then s.setReg d.rd u.result else s
  | none => s

/-- The serialising flush of `u` (R98). -/
def State.serialFlush (s : State) (u : MicroOp) : State :=
  let s' := (s.clearFront.setPc u.nextPc).count fun m => { m with flushes := m.flushes + 1 }
  { s' with exmem := s'.exmem.cleared }

/-- What Writeback does after a lane: go on to the next lane, or no further (R71, R98). -/
inductive LaneEnd where
  | nextLane
  | done
deriving DecidableEq, Repr

/-- One valid micro-op through Writeback (R92 to R98). -/
def State.retireOp (s : State) (u : MicroOp) : LaneEnd × State :=
  match u.fault with
  | some e => (.done, s.raise e)
  | none =>
    let s' := (s.commitReg u).countRetired u
    match u.dec.map Decoded.op with
    | some .ebreak => (.done, s'.setStatus (.halted .ebreak))
    | some .ecall =>
      match s'.hostReply.verdict with
      | .continue => (.done, (s'.hostCall u.pc).serialFlush u)
      | .exit | .fault _ | .refuse => (.done, s'.hostCall u.pc)
    | some .fenceI => (.done, s'.serialFlush u)
    | _ => (.nextLane, s')

/-- Writeback on the lanes of MEMWB, in ascending order (R92). -/
def retireLanes : Lanes → State → State
  | [], s => s
  | none :: rest, s => retireLanes rest s
  | some u :: rest, s =>
    match s.retireOp u with
    | (.nextLane, s') => retireLanes rest s'
    | (.done, s') => s'

/-- WritebackStage. -/
def State.writebackStage (s : State) : State := retireLanes s.memwb.lanes s

end Sys2Proof.Machine
end

