-- ==== Sys2Proof/Machine/Pipeline.lean ====
section
/-!
DEFINITION. One cycle of the pipelined block (spec/40_pipeline_cycle.md R69 to R71), stages from tail to head, and one
turn of its run loop (R72), for any Decoder, ComputeUnit and MemoryBus (R10).
-/

namespace Sys2Proof.Machine

/-- The start of a cycle (R69): the cycle is counted, `fetchMode` is `Run`, and IFID is not (yet) stalled in it (R29). -/
def State.beginCycle (s : State) : State :=
  { s.count (fun m => { m with cycles := m.cycles + 1 }) with
    fetchMode := .run
    ifid := { s.ifid with isStalled := false } }

/-- The stages after Writeback, in the order of R69. -/
def State.laterStages (s : State) (units : Units := .reference) : State :=
  (((s.memoryStage units.bus).executeStage units).controlHazard.decodeStage).fetchStage units

/-- One cycle (R69). When Writeback ends the run, the cycle ends there (R71). -/
def State.cycle (s : State) (units : Units := .reference) : State :=
  let s' := s.beginCycle.writebackStage
  if s'.status = .running then s'.laterStages units else s'

/-- One turn of the run loop of R72 with the run still going: a cycle while the budget lasts, then `NotHalted`. -/
def State.pipelineTurn (s : State) (units : Units := .reference) : State :=
  if s.metrics.cycles < s.cfg.budget then s.cycle units else s.setStatus .notHalted

/-- At most `n` turns of the run loop, while the run goes on. -/
def State.pipelineTurns (n : Nat) (s : State) (units : Units := .reference) : State :=
  match n with
  | 0 => s
  | n + 1 => if s.status = .running then State.pipelineTurns n (s.pipelineTurn units) units else s

/-- The run loop of R72 to its end: the cycles the budget leaves, then the turn that sets `NotHalted`. -/
def State.pipelineRun (s : State) (units : Units := .reference) : State :=
  State.pipelineTurns (s.cfg.budget - s.metrics.cycles + 1) s units

end Sys2Proof.Machine
end

