-- ==== Sys2Proof/Machine/CompressedOps.lean ====
section
/-!
DEFINITION. The compressed instructions (spec/48_compressed.md R205 to R237) on the sequential reference: the computation
of the expansion, with `len = 2` (R202), written over the same value functions and forms.
-/

namespace Sys2Proof.Machine

/-- C.ADDI4SPN (R205). -/
def execCAddi4spn (rdp : CReg) (nzuimm : BitVec 10) (s : State) : Answer :=
  finishReg (primed rdp) (aluAdd (s.reg 2) (zext nzuimm)) .two s
/-- C.LW (R206). -/
def execCLw (rdp rs1p : CReg) (uimm : BitVec 7) (s : State) : Answer :=
  finishLoad 4 true (primed rdp) (effectiveAddress (s.reg (primed rs1p)) (zext uimm)) .two s
/-- C.LD (R207). -/
def execCLd (rdp rs1p : CReg) (uimm : BitVec 8) (s : State) : Answer :=
  finishLoad 8 true (primed rdp) (effectiveAddress (s.reg (primed rs1p)) (zext uimm)) .two s
/-- C.SW (R208). -/
def execCSw (rs2p rs1p : CReg) (uimm : BitVec 7) (s : State) : Answer :=
  finishStore 4 (s.reg (primed rs2p)) (effectiveAddress (s.reg (primed rs1p)) (zext uimm)) .two s
/-- C.SD (R209). -/
def execCSd (rs2p rs1p : CReg) (uimm : BitVec 8) (s : State) : Answer :=
  finishStore 8 (s.reg (primed rs2p)) (effectiveAddress (s.reg (primed rs1p)) (zext uimm)) .two s
/-- C.NOP (R210). -/
def execCNop (imm : BitVec 6) (s : State) : Answer :=
  finishReg 0 (aluAdd (s.reg 0) (sext imm)) .two s
/-- C.ADDI (R211). -/
def execCAddi (rd : Reg) (imm : BitVec 6) (s : State) : Answer :=
  finishReg rd (aluAdd (s.reg rd) (sext imm)) .two s
/-- C.ADDIW (R212). -/
def execCAddiw (rd : Reg) (imm : BitVec 6) (s : State) : Answer :=
  finishReg rd (aluAddw (s.reg rd) (sext imm)) .two s
/-- C.LI (R213). -/
def execCLi (rd : Reg) (imm : BitVec 6) (s : State) : Answer :=
  finishReg rd (aluAdd (s.reg 0) (sext imm)) .two s
/-- C.ADDI16SP (R214). -/
def execCAddi16sp (nzimm : BitVec 10) (s : State) : Answer :=
  finishReg 2 (aluAdd (s.reg 2) (sext nzimm)) .two s
/-- C.LUI (R215). -/
def execCLui (rd : Reg) (nzimm : BitVec 18) (s : State) : Answer :=
  finishReg rd (sext nzimm) .two s
/-- C.SRLI (R216). -/
def execCSrli (rdp : CReg) (shamt : BitVec 6) (s : State) : Answer :=
  finishReg (primed rdp) (aluSrl (s.reg (primed rdp)) (zext shamt)) .two s
/-- C.SRAI (R217). -/
def execCSrai (rdp : CReg) (shamt : BitVec 6) (s : State) : Answer :=
  finishReg (primed rdp) (aluSra (s.reg (primed rdp)) (zext shamt)) .two s
/-- C.ANDI (R218). -/
def execCAndi (rdp : CReg) (imm : BitVec 6) (s : State) : Answer :=
  finishReg (primed rdp) (aluAnd (s.reg (primed rdp)) (sext imm)) .two s
/-- C.SUB (R219). -/
def execCSub (rdp rs2p : CReg) (s : State) : Answer :=
  finishReg (primed rdp) (aluSub (s.reg (primed rdp)) (s.reg (primed rs2p))) .two s
/-- C.XOR (R220). -/
def execCXor (rdp rs2p : CReg) (s : State) : Answer :=
  finishReg (primed rdp) (aluXor (s.reg (primed rdp)) (s.reg (primed rs2p))) .two s
/-- C.OR (R221). -/
def execCOr (rdp rs2p : CReg) (s : State) : Answer :=
  finishReg (primed rdp) (aluOr (s.reg (primed rdp)) (s.reg (primed rs2p))) .two s
/-- C.AND (R222). -/
def execCAnd (rdp rs2p : CReg) (s : State) : Answer :=
  finishReg (primed rdp) (aluAnd (s.reg (primed rdp)) (s.reg (primed rs2p))) .two s
/-- C.SUBW (R223). -/
def execCSubw (rdp rs2p : CReg) (s : State) : Answer :=
  finishReg (primed rdp) (aluSubw (s.reg (primed rdp)) (s.reg (primed rs2p))) .two s
/-- C.ADDW (R224). -/
def execCAddw (rdp rs2p : CReg) (s : State) : Answer :=
  finishReg (primed rdp) (aluAddw (s.reg (primed rdp)) (s.reg (primed rs2p))) .two s
/-- C.J (R225). -/
def execCJ (offset : BitVec 12) (s : State) : Answer :=
  finishJump 0 (s.pc + sext offset) .two s
/-- C.BEQZ (R226). -/
def execCBeqz (rs1p : CReg) (offset : BitVec 9) (s : State) : Answer :=
  finishBranch (condEq (s.reg (primed rs1p)) (s.reg 0)) (sext offset) .two s
/-- C.BNEZ (R227). -/
def execCBnez (rs1p : CReg) (offset : BitVec 9) (s : State) : Answer :=
  finishBranch (condNe (s.reg (primed rs1p)) (s.reg 0)) (sext offset) .two s
/-- C.SLLI (R228). -/
def execCSlli (rd : Reg) (shamt : BitVec 6) (s : State) : Answer :=
  finishReg rd (aluSll (s.reg rd) (zext shamt)) .two s
/-- C.LWSP (R229). -/
def execCLwsp (rd : Reg) (uimm : BitVec 8) (s : State) : Answer :=
  finishLoad 4 true rd (effectiveAddress (s.reg 2) (zext uimm)) .two s
/-- C.LDSP (R230). -/
def execCLdsp (rd : Reg) (uimm : BitVec 9) (s : State) : Answer :=
  finishLoad 8 true rd (effectiveAddress (s.reg 2) (zext uimm)) .two s
/-- C.JR (R231). -/
def execCJr (rs1 : Reg) (s : State) : Answer :=
  finishJump 0 (jalrTarget (s.reg rs1) 0) .two s
/-- C.MV (R232). -/
def execCMv (rd rs2 : Reg) (s : State) : Answer :=
  finishReg rd (aluAdd (s.reg 0) (s.reg rs2)) .two s
/-- C.EBREAK (R233). -/
def execCEbreak (s : State) : Answer :=
  finishBreak s
/-- C.JALR (R234). -/
def execCJalr (rs1 : Reg) (s : State) : Answer :=
  finishJump 1 (jalrTarget (s.reg rs1) 0) .two s
/-- C.ADD (R235). -/
def execCAdd (rd rs2 : Reg) (s : State) : Answer :=
  finishReg rd (aluAdd (s.reg rd) (s.reg rs2)) .two s
/-- C.SWSP (R236). -/
def execCSwsp (rs2 : Reg) (uimm : BitVec 8) (s : State) : Answer :=
  finishStore 4 (s.reg rs2) (effectiveAddress (s.reg 2) (zext uimm)) .two s
/-- C.SDSP (R237). -/
def execCSdsp (rs2 : Reg) (uimm : BitVec 9) (s : State) : Answer :=
  finishStore 8 (s.reg rs2) (effectiveAddress (s.reg 2) (zext uimm)) .two s

end Sys2Proof.Machine
end

