-- ==== Sys2Proof/Machine/SystemOps.lean ====
section
/-!
DEFINITION. The system and synchronisation instructions (spec/47_system.md R198 to R201) on the sequential reference.
-/

namespace Sys2Proof.Machine

/-- FENCE (R198): there is nothing to order (R49), so it has no effect but to go on. -/
def execFence (_fm _pred _succ : BitVec 4) (_rs1 _rd : Reg) (s : State) : Answer := finishNone .four s
/-- FENCE.I (R199): on the sequential reference it does nothing further (R264 item 5); in the pipeline it flushes. -/
def execFenceI (_imm : BitVec 12) (_rs1 _rd : Reg) (s : State) : Answer := finishNone .four s
/-- ECALL (R200). -/
def execEcall (s : State) : Answer := finishCall .four s
/-- EBREAK (R201). -/
def execEbreak (s : State) : Answer := finishBreak s

end Sys2Proof.Machine
end

