-- ==== Sys2Proof/Machine/Reference.lean ====
section
/-!
DEFINITION. The sequential reference (spec/00_scope.md R14, spec/70_reset_and_hazards.md R264): fetch, decode, execute
one instruction. `referenceStep` is what `step` runs; `recordStep` is R14's step written once over the decoded record
and the ComputeUnit, the description the pipeline shares, and `referenceStepWith` is the reference step over it, for any
Decoder, ComputeUnit and MemoryBus (R10).
-/

namespace Sys2Proof.Machine

/-- One step of the sequential reference (R264): the fetch fault, the illegal instruction, or `exec` of the decoded
instruction. -/
def State.referenceStep (s : State) : Answer :=
  match s.fetchWord s.pc with
  | none => .next (s.raise (.fetchFault s.pc))
  | some (len, word) =>
    match decode word len with
    | .error _ => .next (s.raise (.illegalInstruction s.pc word))
    | .ok i => exec i s

/-- Operand A of the record: `x[rs1]` if the instruction reads it, else 0 (spec/43_integer_alu.md). -/
def State.operandA (s : State) (d : Decoded) : Word := if d.readsRs1 then s.reg d.rs1 else 0

/-- Operand B of the record. -/
def State.operandB (s : State) (d : Decoded) : Word := if d.readsRs2 then s.reg d.rs2 else 0

/-- The ComputeUnit applied to the record at `pc`. -/
def State.computeRecord (s : State) (d : Decoded) (units : Units := .reference) : ComputeOut :=
  units.compute d.op s.pc d.len d.imm (s.operandA d) (s.operandB d)

/-- The register write and the next pc of R14, with `v` the value for rd. -/
def State.finishRecord (s : State) (d : Decoded) (v : Word) (units : Units := .reference) : State :=
  (if d.regWrite then s.setReg d.rd v else s).setPc
    (if (s.computeRecord d units).taken then (s.computeRecord d units).target else s.pcAfter d.len)

/-- R14's sequential step over a decoded record: compute, access memory, write rd, perform the system action, set pc. -/
def State.recordStep (s : State) (d : Decoded) (units : Units := .reference) : State :=
  let o := s.computeRecord d units
  if d.isLoad then
    if s.inRange o.result d.memBytes units.bus then
      s.finishRecord d (extendLoad d.memBytes d.memSigned (s.memRead o.result d.memBytes units.bus)) units
    else s.raise (.memoryFault s.pc o.result)
  else if d.isStore then
    if s.inRange o.result d.memBytes units.bus then
      (s.memWrite o.result d.memBytes o.store units.bus).setPc (s.pcAfter d.len)
    else s.raise (.memoryFault s.pc o.result)
  else if d.op = .ebreak then s.setStatus (.halted .ebreak)
  else if d.op = .ecall then
    if s.hostReply.verdict = .continue then (s.hostCall s.pc).setPc (s.pcAfter d.len) else s.hostCall s.pc
  else s.finishRecord d o.result units

/-- One step of the sequential reference (R264) of the block with these units. -/
def State.referenceStepWith (s : State) (units : Units) : State :=
  match s.fetchWord s.pc units.bus with
  | none => s.raise (.fetchFault s.pc)
  | some (len, word) =>
    match units.decode word len with
    | .error _ => s.raise (.illegalInstruction s.pc word)
    | .ok d => s.recordStep d units

/-- A run of the reference bounded by a step budget (R264): `NotHalted` when the budget is used up. An answer that is
no next state ends it where it stands; `exec` gives none. -/
def State.referenceRun : Nat → State → State
  | 0, s => if s.status = .running then s.setStatus .notHalted else s
  | n + 1, s =>
    if s.status = .running then
      match s.referenceStep with
      | .next s' => State.referenceRun n s'
      | .fault _ | .refused _ => s
    else s

/-- The same state with `e` taking the next step (log entry 1). -/
def State.withEngine (s : State) (e : Engine) : State := { s with engine := e }

end Sys2Proof.Machine
end

