-- ==== Sys2Proof/Machine/Step.lean ====
section
/-!
DEFINITION. One step of the machine. A step of the pipelined block is one turn of its run loop
(spec/40_pipeline_cycle.md R72): one cycle. A step of the sequential reference is one instruction
(spec/70_reset_and_hazards.md R264). `step` is the machine of the reference instantiation, whose instructions are those
of the opcode table; `stepWith` is the machine of any Decoder, ComputeUnit and MemoryBus (R10; log entry 19).
-/

namespace Sys2Proof.Machine

/-- One step. A configuration that fails a check of R240 never starts; a run that has ended changes no more (R242). -/
def step (s : State) : Host.Outcome State Fault Refusal :=
  match configError s.cfg s.plat with
  | some field => .fault (.configurationError field)
  | none =>
    if s.status = .running then
      match s.engine with
      | .pipeline => .next s.pipelineTurn
      | .reference => s.referenceStep
    else .next s

/-- One step of the machine with these units, in the same order: the checks of R240, the end of a run (R242), and the
description that takes the step. -/
def stepWith (s : State) (units : Units) : Host.Outcome State Fault Refusal :=
  match configError s.cfg s.plat with
  | some field => .fault (.configurationError field)
  | none =>
    if s.status = .running then
      match s.engine with
      | .pipeline => .next (s.pipelineTurn units)
      | .reference => .next (s.referenceStepWith units)
    else .next s

/-- The state with an instruction, given as the bits of its row in spec/opcode_table.json, placed so that the very next
step runs it: its bytes at `pc`, every higher bit of the longest instruction 0, and the sequential reference taking the
step, because the pipelined block takes five cycles over an instruction (R262; log entry 1). -/
def State.withFetchWord (s : State) (nbits w : Nat) : State :=
  { s with
    engine := .reference
    mem := s.mem.writeLE s.pc.toNat 4 (w % 2 ^ nbits) }

end Sys2Proof.Machine
end

