-- ==== Sys2Proof/Machine/Observe.lean ====
section
/-!
DEFINITION. What the caller and the host observe of a run (spec/60_exceptions.md R239, R242, R253 to R255): the run
result, the status codes, the derived figures, the snapshot, and the report of a tandem comparison. Taking any of
them changes nothing.
-/

namespace Sys2Proof.Machine

/-- The record a run returns (R239). -/
structure RunResult where
  status : Status
  regs : Vector Word 32
  pc : Word
  mem : Memory
  out : List Byte
  metrics : Metrics
deriving DecidableEq, Repr

/-- The run result at a state (R239). -/
def State.result (s : State) : RunResult := ⟨s.status, s.regs, s.pc, s.mem, s.out, s.metrics⟩

/-- The code of a terminal status (R242); none while the run goes on. -/
def Status.code : Status → Option Nat
  | .running => none
  | .halted .exit => some 0
  | .halted .ebreak => some 1
  | .error (.fetchFault _) => some 2
  | .error (.illegalInstruction _ _) => some 3
  | .error (.memoryFault _ _) => some 4
  | .refused _ => some 5
  | .notHalted => some 6

/-- `IPC = isaRetired / cycles`, undefined when no cycle ran (R253). -/
def Metrics.ipc (m : Metrics) : Option ℚ := if m.cycles = 0 then none else some (m.isaRetired / m.cycles)

/-- `accuracy = dirCorrect / condBranches`, undefined when no branch resolved (R135, R253). -/
def Metrics.accuracy (m : Metrics) : Option ℚ :=
  if m.condBranches = 0 then none else some (m.dirCorrect / m.condBranches)

/-- One latch in a snapshot: its slots and both aggregate flags (R254). -/
structure LatchView where
  lanes : Lanes
  isStalled : Bool
  hasContent : Bool
deriving DecidableEq, Repr

/-- A latch as a snapshot shows it. -/
def Latch.view (l : Latch) : LatchView := ⟨l.lanes, l.isStalled, l.hasContent⟩

/-- The snapshot of R254, taken between cycles. -/
structure Snapshot where
  ifid : LatchView
  idex : LatchView
  exmem : LatchView
  memwb : LatchView
  pc : Word
  status : Status
  counters : CounterTable
  ghr : Nat
  rasStack : List Word
  metrics : Metrics
deriving DecidableEq, Repr

/-- The snapshot at a state (R254). -/
def State.snapshot (s : State) : Snapshot :=
  ⟨s.ifid.view, s.idex.view, s.exmem.view, s.memwb.view, s.pc, s.status, s.counters, s.ghr, s.rasStack, s.metrics⟩

/-- The report of a tandem comparison (R255). -/
inductive TandemReport where
  | pass
  | registerMismatch (i : Reg) (actual expected : Word)
  | outputMismatch (k : Nat) (actualSuffix expectedSuffix : List Byte)
deriving DecidableEq, Repr

/-- The first offset from `k` on at which two output streams differ, or at which one ends, with both suffixes. -/
def outputMismatchFrom : Nat → List Byte → List Byte → Option (Nat × List Byte × List Byte)
  | _, [], [] => none
  | k, a :: as, b :: bs => if a = b then outputMismatchFrom (k + 1) as bs else some (k, a :: as, b :: bs)
  | k, as, bs => some (k, as, bs)

/-- The comparison of two final states (R255): registers first, the lowest index that differs, then the output. -/
def tandemReport (actual expected : State) : TandemReport :=
  match (List.range 32).find? fun i => actual.reg (BitVec.ofNat 5 i) ≠ expected.reg (BitVec.ofNat 5 i) with
  | some i => .registerMismatch (BitVec.ofNat 5 i) (actual.reg (BitVec.ofNat 5 i)) (expected.reg (BitVec.ofNat 5 i))
  | none =>
    match outputMismatchFrom 0 actual.out expected.out with
    | some (k, as, bs) => .outputMismatch k as bs
    | none => .pass

end Sys2Proof.Machine
end

