-- ==== Sys2Proof/Safety.lean ====
section
/-!
DEFINITION. The terms the statements use: what one instruction leaves unchanged (its frame), what it means that an
answer is a next state with a given effect, and the invariant `State.Inv` of the machine.
-/

namespace Sys2Proof.Machine

/-! ## Frames -/

/-- Nothing but the registers, pc, memory, the output stream and the status differs: not the configuration, not the
platform, not the pipeline's own state (latches, predictor, return-address stack, metrics, control). -/
structure SameMachine (s t : State) : Prop where
  engine : t.engine = s.engine
  cfg : t.cfg = s.cfg
  plat : t.plat = s.plat
  ifid : t.ifid = s.ifid
  idex : t.idex = s.idex
  exmem : t.exmem = s.exmem
  memwb : t.memwb = s.memwb
  counters : t.counters = s.counters
  ghr : t.ghr = s.ghr
  rasStack : t.rasStack = s.rasStack
  metrics : t.metrics = s.metrics
  fetchMode : t.fetchMode = s.fetchMode

/-- Every register reads as before. -/
def SameRegs (s t : State) : Prop := ∀ r : Reg, t.reg r = s.reg r

/-- Register rd reads `v`, unless it is x0, and every other register reads as before: x0 included (R18). -/
def RegWritten (s t : State) (rd : Reg) (v : Word) : Prop :=
  ∀ r : Reg, t.reg r = if r = rd ∧ r ≠ 0 then v else s.reg r

/-- Every byte of memory reads as before. -/
def SameBytes (s t : State) : Prop := ∀ a : Nat, t.mem.byte a = s.mem.byte a

/-- Every byte of memory outside the `n` bytes from `addr` on reads as before. -/
def SameBytesOutside (s t : State) (addr n : Nat) : Prop :=
  ∀ a : Nat, (a < addr ∨ addr + n ≤ a) → t.mem.byte a = s.mem.byte a

/-! ## Effects -/

/-- The answer is a next state in which rd has a value with the property `value`, the pc has the property `next`, and
nothing else differs: no other register, no byte of memory, not the output, not the status. -/
def WritesReg (s : State) (answer : Answer) (rd : Reg) (value next : Word → Prop) : Prop :=
  ∃ t v, answer = .next t ∧ value v ∧ RegWritten s t rd v ∧ next t.pc ∧
    SameBytes s t ∧ t.out = s.out ∧ t.status = s.status ∧ SameMachine s t

/-- The answer is a next state in which only the pc differs, and it has the property `next`. -/
def OnlyMovesPc (s : State) (answer : Answer) (next : Word → Prop) : Prop :=
  ∃ t, answer = .next t ∧ next t.pc ∧ SameRegs s t ∧
    SameBytes s t ∧ t.out = s.out ∧ t.status = s.status ∧ SameMachine s t

/-- The answer is a next state in which the `n` bytes from `addr` on are the low bytes of `v`, least significant first
(R41), the pc has the property `next`, and nothing else differs: no register, no other byte of memory. -/
def StoresBytes (s : State) (answer : Answer) (addr : Word) (n : Nat) (v : Word) (next : Word → Prop) : Prop :=
  ∃ t, answer = .next t ∧ (∀ i < n, t.mem.byte (addr.toNat + i) = v.extractLsb' (8 * i) 8) ∧
    SameBytesOutside s t addr.toNat n ∧ SameRegs s t ∧ next t.pc ∧
    t.out = s.out ∧ t.status = s.status ∧ SameMachine s t

/-- The answer is a next state in which only the status differs: the run has ended with `st`. -/
def EndsRun (s : State) (answer : Answer) (st : Status) : Prop :=
  ∃ t, answer = .next t ∧ t.status = st ∧ t.pc = s.pc ∧ SameRegs s t ∧
    SameBytes s t ∧ t.out = s.out ∧ SameMachine s t

/-- The 64-bit value `w` is the integer `n` modulo 2^64 (R11). -/
def isMod64 (n : Int) (w : Word) : Prop := (w.toNat : Int) = n % 2 ^ 64

/-- The 64-bit value `w` is the low 32 bits of the integer `n`, sign-extended: `sext_32(n mod 2^32)` (R11). -/
def isSext32 (n : Int) (w : Word) : Prop := w.toInt = n.bmod (2 ^ 32)

/-- The pc of the next instruction after one of 4 bytes. -/
def State.next4 (s : State) (p : Word) : Prop := isMod64 (s.pc.toNat + 4) p

/-- The pc of the next instruction after one of 2 bytes. -/
def State.next2 (s : State) (p : Word) : Prop := isMod64 (s.pc.toNat + 2) p

/-- The `n` bytes of memory from `addr` on as a little-endian number: the sum of R40. -/
def littleEndianSum (m : Memory) (addr n : Nat) : Nat :=
  ((List.range n).map fun i => (m.byte (addr + i)).toNat * 2 ^ (8 * i)).sum

/-- The access of `n` bytes at `addr` lies in the memory region (R39). -/
def InRegion (s : State) (addr : Word) (n : Nat) : Prop :=
  s.plat.memBase ≤ addr.toNat ∧ addr.toNat + n ≤ s.plat.memBase + s.plat.memSize

/-! ## Micro-ops and lanes, as the statements speak of them -/

/-- A micro-op that Writeback commits and goes on from: no pending error, and not EBREAK, ECALL or FENCE.I. -/
def MicroOp.plain (u : MicroOp) : Prop :=
  u.fault = none ∧ ∃ d, u.dec = some d ∧ d.op ≠ .ebreak ∧ d.op ≠ .ecall ∧ d.op ≠ .fenceI

/-- Every valid micro-op of the lanes is plain. -/
def PlainLanes (l : Lanes) : Prop := ∀ u, some u ∈ l → u.plain

/-- The micro-op writes register `r` at Writeback (R94). -/
def MicroOp.writes (u : MicroOp) (r : Reg) : Prop := r ≠ 0 ∧ ∃ d, u.dec = some d ∧ d.regWrite = true ∧ d.rd = r

/-- Every lane is a bubble. -/
def AllBubbles (l : Lanes) : Prop := ∀ slot ∈ l, slot = none

/-- The architectural state agrees (R264): registers, memory, output and status. -/
def SameArchitecture (s t : State) : Prop := t.regs = s.regs ∧ t.mem = s.mem ∧ t.out = s.out ∧ t.status = s.status

/-- Lane `k` of a bundle is the second of a fused pair (R110). -/
def fusedAt (c : Config) (ops : List MicroOp) : Nat → Bool
  | 0 => false
  | k + 1 =>
    c.fusion && !fusedAt c ops k &&
      match ops[k]?, ops[k + 1]? with
      | some p, some q => fusiblePair p q
      | _, _ => false

/-- Lane `j` of a bundle is the youngest lane before lane `k` that produces register `r` (R103 item 2). -/
def YoungestBefore (ops : List MicroOp) (k j : Nat) (r : Reg) : Prop :=
  j < k ∧ (∃ q, ops[j]? = some q ∧ q.produces r = true) ∧
    ∀ m p, j < m → m < k → ops[m]? = some p → p.produces r = false

/-- Lane `j` may feed lane `k` in the same cycle (R103 item 2). -/
def Permitted (c : Config) (ops : List MicroOp) (k j : Nat) : Prop :=
  (∃ q, ops[j]? = some q ∧ q.flag Decoded.isLoad = false) ∧
    (c.cascade = true ∨ (j + 1 = k ∧ fusedAt c ops k = true))

/-- Lane `k` of a bundle meets one of the two split conditions of R103. -/
def SplitAt (c : Config) (ops : List MicroOp) (k : Nat) : Prop :=
  (∃ m q, k = m + 1 ∧ ops[m]? = some q ∧ q.serialising = true) ∨
    ∃ u r j, ops[k]? = some u ∧ (u.readsA = some r ∨ u.readsB = some r) ∧ YoungestBefore ops k j r ∧
      ¬ Permitted c ops k j

/-- Where the register an operand of lane `k` reads comes from inside the bundle (R103). -/
def ComesFrom (ops : List MicroOp) (k : Nat) (reads : Option Reg) (l : LaneSource) : Prop :=
  ∀ r, reads = some r →
    (∀ j, YoungestBefore ops k j r → l = .lane j) ∧ ((∀ j, ¬ YoungestBefore ops k j r) → l = .outside)

/-- The operand of a planned lane must wait for a load (R105 item 1). -/
def MustWait (s : State) (reads : Option Reg) (l : LaneSource) : Prop :=
  ∃ r, reads = some r ∧ (∀ j, l ≠ .lane j) ∧ s.forward r = none

/-- The operand source gives the value `v`, where `done` are the results of the older lanes (R86): the value itself, or
the result of the lane it names. -/
def OperandFrom (done : Lanes) (src : Source) (v : Word) : Prop :=
  src = .val v ∨ ∃ j q, src = .lane j ∧ done[j]? = some (some q) ∧ q.result = v

/-- In the cycle from `s`, an ECALL in MEMWB calls the host in the state `h`, after the older lanes have committed, and
the answer's changes take effect: its verdict is `Continue` or `Exit` (R97, R251). An ECALL itself writes no register. -/
def HostActs (s h : State) : Prop :=
  (h.hostReply.verdict = .continue ∨ h.hostReply.verdict = .exit) ∧
    ∃ pre u post d, s.memwb.lanes = pre ++ some u :: post ∧ u.fault = none ∧ u.dec = some d ∧ d.op = .ecall ∧
      h = (retireLanes pre s.beginCycle).commitReg u

/-- What the micro-ops of a list of EXMEM slots do to the predictor and the return-address stack as they resolve, in lane
order (R113 items 1 and 2): a conditional branch trains the predictor (R128), and with `ras` a call or return updates
the stack (R132). A micro-op with a pending error does neither. -/
def resolvedBy : Lanes → State → State
  | [], s => s
  | none :: rest, s => resolvedBy rest s
  | some u :: rest, s =>
    if u.fault = none then
      let b := if u.flag Decoded.isBranch = true then s.train u.predIdx u.taken else s
      resolvedBy rest (if b.cfg.ras = true then b.updateRas u else b)
    else resolvedBy rest s

/-- How many conditional branches resolve in a list of slots. -/
def branchesIn (l : Lanes) : Nat :=
  l.countP fun slot => slot.any fun u => u.fault.isNone && u.flag Decoded.isBranch

/-- How many of them went in the direction recorded at fetch. -/
def rightBranchesIn (l : Lanes) : Nat :=
  l.countP fun slot => slot.any fun u => u.fault.isNone && u.flag Decoded.isBranch && u.dirPred == u.taken

/-! ## The invariant -/

/-- The valid slots are packed from lane 0 (R30). -/
def lanesPacked : Lanes → Bool
  | [] => true
  | none :: rest => rest.all Option.isNone
  | some _ :: rest => lanesPacked rest

/-- No slot after a serialising micro-op is valid (R102). -/
def serialLast : Lanes → Bool
  | [] => true
  | none :: rest => serialLast rest
  | some u :: rest => (!(u.serialising) || rest.all Option.isNone) && serialLast rest

/-- An address is even (R20). -/
def Even64 (a : Word) : Prop := a.toNat % 2 = 0

/-- The pending error of a micro-op is its own: it names the micro-op's pc, and its word or its access (R243 to R245). -/
def MicroOp.faultOwn (u : MicroOp) : Prop :=
  match u.fault with
  | none => u.dec ≠ none
  | some (.fetchFault a) => a = u.pc ∧ u.dec = none
  | some (.illegalInstruction p w) => p = u.pc ∧ w = u.word ∧ u.dec = none
  | some (.memoryFault p a) => p = u.pc ∧ a = u.result ∧ u.dec ≠ none

/-- What holds of every micro-op in a latch: its addresses are even, its decoded record is the Decoder's for its word
(R77), its counter index is one of the table's (R125), and its pending error is its own. -/
structure MicroOp.Ok (c : Config) (u : MicroOp) : Prop where
  pc : Even64 u.pc
  predTarget : Even64 u.predTarget
  target : Even64 u.target
  predIdx : ∀ i, u.predIdx = some i → i < 2 ^ c.tableBits
  dec : ∀ d, u.dec = some d → ∃ i, decode u.word u.len = .ok i ∧ d = recordOf i
  faultOwn : u.faultOwn

/-- What holds of a latch: W lanes, packed, every micro-op in order (R28, R30). -/
structure Latch.Ok (c : Config) (l : Latch) : Prop where
  width : l.lanes.length = c.width
  packed : lanesPacked l.lanes = true
  ops : ∀ u, some u ∈ l.lanes → u.Ok c

/-- The invariant of the machine: memory is canonical and lies in its region (R21, R38), x0 holds 0 (R18), pc is even
(R20), the latches are in order (R28, R29, R30, R102), the predictor and the return-address stack keep their bounds
(R31, R32, R33), and the metrics agree with one another (R253). -/
structure State.Inv (s : State) : Prop where
  memory : s.mem.wf
  region : ∀ p ∈ s.mem, s.plat.memBase ≤ p.1 ∧ p.1 < s.plat.memBase + s.plat.memSize
  zero : s.regs[0] = 0
  pc : Even64 s.pc
  ifid : s.ifid.Ok s.cfg
  idex : s.idex.Ok s.cfg
  exmem : s.exmem.Ok s.cfg
  memwb : s.memwb.Ok s.cfg
  stalledIfid : s.ifid.isStalled = true ↔ s.fetchMode = .hold
  stalledOthers : s.idex.isStalled = false ∧ s.exmem.isStalled = false ∧ s.memwb.isStalled = false
  serial : serialLast s.idex.lanes = true ∧ serialLast s.exmem.lanes = true ∧ serialLast s.memwb.lanes = true
  table : sparseWf s.cfg.initCounter s.counters
  counters : ∀ p ∈ s.counters, p.1 < 2 ^ s.cfg.tableBits ∧ p.2 < 2 ^ s.cfg.counterBits
  ghr : s.ghr < 2 ^ s.cfg.tableBits
  rasDepth : s.rasStack.length ≤ s.cfg.rasDepth
  rasOff : s.cfg.ras = false → s.rasStack = []
  rasEven : ∀ a ∈ s.rasStack, Even64 a
  retired : s.metrics.committed ≤ s.metrics.isaRetired
  mispredicted : s.metrics.mispredicts ≤ s.metrics.flushes
  predicted : s.metrics.dirCorrect ≤ s.metrics.condBranches
  budget : s.metrics.cycles ≤ s.cfg.budget

/-! ## Runs -/

/-- A safe run of the machine from `s`, of at most `n` steps: every step answers a next state, and the invariant holds
all along. The run-time errors of R243 to R245 are statuses the spec describes, so they are safe ends. -/
def SafeFor : Nat → State → Prop
  | 0, s => s.Inv
  | n + 1, s => s.Inv ∧ ∃ t, step s = .next t ∧ SafeFor n t

end Sys2Proof.Machine
end

