-- ==== Sys2Proof/Certificates/Slice0/Obligations.lean ====
section
/-!
DEFINITION. The statements for the provers. Each docstring names the rules of spec/ the statement rests on, and the log
entry where a clause is the model's own choice. The terms are those of Safety.lean.
-/

open Sys2Proof Sys2Proof.Machine

/-! ## Encoding -/

/-- Decoding the encoding of a well-formed instruction gives the instruction back, with every operand at every value its
encoding admits (R58, R59, R62, R63). -/
def Obligations.DecodeOfEncode : Prop :=
  ∀ i : Instr, i.wellFormed = true → decode (encode i) (lenOf i) = .ok i

/-- What the Decoder accepts is well formed, has the length it was decoded at, and encodes back to the same bits: so no
word is two instructions and no bit of a word is dropped (R62: "No two rows match the same word"). -/
def Obligations.EncodeOfDecode : Prop :=
  (∀ (w : InstWord) (i : Instr), decode w .four = .ok i →
    encode i = w ∧ lenOf i = .four ∧ i.wellFormed = true) ∧
  (∀ (h : Parcel) (i : Instr), decode (h.setWidth 32) .two = .ok i →
    encode i = h.setWidth 32 ∧ lenOf i = .two ∧ i.wellFormed = true)

/-- A compressed instruction expands to exactly one 32-bit instruction, and its decoded record is that instruction's
but for `len = 2` (R63, R202). -/
def Obligations.CompressedRecordIsExpansions : Prop :=
  ∀ i : Instr, i.wellFormed = true → lenOf i = .two →
    lenOf (expand i) = .four ∧ (expand i).wellFormed = true ∧
      recordOf i = { recordOf (expand i) with len := .two } ∧ (recordOf (expand i)).len = .four

/-- A sanity check of a few words written out from the encodings and examples of the spec. -/
def Obligations.SpecExampleWordsDecode : Prop :=
  decode 0x800002b7 .four = .ok (.lui 5 0x80000) ∧
  decode 0xff608193 .four = .ok (.addi 3 1 (-10)) ∧
  decode 0x0220e1b3 .four = .ok (.rem 3 1 2) ∧
  decode 0x010000ef .four = .ok (.jal 1 16) ∧
  decode 0xff9ff06f .four = .ok (.jal 0 (-8)) ∧
  decode 0x7e208fe3 .four = .ok (.beq 1 2 4094) ∧
  decode 0x00113423 .four = .ok (.sd 1 2 8) ∧
  decode 0x0000100f .four = .ok (.fenceI 0 0 0) ∧
  decode 0x00000073 .four = .ok .ecall ∧
  decode 0x00100073 .four = .ok .ebreak ∧
  decode 0x9002 .two = .ok .cEbreak

/-- The words R64 and R203 list as illegal: an opcode space that is not implemented, a SYSTEM word other than ECALL and
EBREAK, in every implemented space the funct3, funct6 and funct7 with no row (R62), and the reserved compressed words. -/
def Obligations.IllegalWordsAreRefused : Prop :=
  (∀ w : InstWord, opcodeOf w ∉ [0x33, 0x3B, 0x13, 0x1B, 0x03, 0x23, 0x63, 0x67, 0x6F, 0x37, 0x17, 0x0F, 0x73] →
    ∃ e, decode w .four = .error e) ∧
  (∀ w : InstWord, opcodeOf w = 0x73 → w ≠ 0x00000073 → w ≠ 0x00100073 → ∃ e, decode w .four = .error e) ∧
  (∀ w : InstWord, (opcodeOf w = 0x03 ∧ funct3Of w = 7) ∨ (opcodeOf w = 0x23 ∧ 4 ≤ (funct3Of w).toNat) ∨
      (opcodeOf w = 0x63 ∧ (funct3Of w = 2 ∨ funct3Of w = 3)) ∨ (opcodeOf w = 0x67 ∧ funct3Of w ≠ 0) ∨
      (opcodeOf w = 0x0F ∧ 2 ≤ (funct3Of w).toNat) →
    ∃ e, decode w .four = .error e) ∧
  (∀ w : InstWord, opcodeOf w = 0x13 →
    (funct3Of w = 1 ∧ funct6Of w ≠ 0) ∨ (funct3Of w = 5 ∧ funct6Of w ∉ [0x00, 0x10]) →
    ∃ e, decode w .four = .error e) ∧
  (∀ w : InstWord, opcodeOf w = 0x1B →
    funct3Of w ∈ [2, 3, 4, 6, 7] ∨ (funct3Of w = 1 ∧ funct7Of w ≠ 0) ∨ (funct3Of w = 5 ∧ funct7Of w ∉ [0x00, 0x20]) →
    ∃ e, decode w .four = .error e) ∧
  (∀ w : InstWord, opcodeOf w = 0x33 →
    funct7Of w ∉ [0x00, 0x01, 0x20] ∨ (funct7Of w = 0x20 ∧ funct3Of w ∉ [0, 5]) →
    ∃ e, decode w .four = .error e) ∧
  (∀ w : InstWord, opcodeOf w = 0x3B →
    funct7Of w ∉ [0x00, 0x01, 0x20] ∨ (funct7Of w = 0x00 ∧ funct3Of w ∉ [0, 1, 5]) ∨
      (funct7Of w = 0x01 ∧ funct3Of w ∉ [0, 4, 5, 6, 7]) ∨ (funct7Of w = 0x20 ∧ funct3Of w ∉ [0, 5]) →
    ∃ e, decode w .four = .error e) ∧
  (∀ h : Parcel,
    h = 0 ∨
    (quadrantOf h = 0 ∧ cFunct3Of h ∈ [1, 4, 5]) ∨
    (quadrantOf h = 0 ∧ cFunct3Of h = 0 ∧ cImmAddi4spn h = 0) ∨
    (quadrantOf h = 1 ∧ cFunct3Of h = 1 ∧ cRdOf h = 0) ∨
    (quadrantOf h = 1 ∧ cFunct3Of h = 3 ∧ h.extractLsb' 12 1 = 0 ∧ h.extractLsb' 2 5 = 0) ∨
    (quadrantOf h = 1 ∧ cFunct3Of h = 4 ∧ h.extractLsb' 12 1 = 1 ∧ h.extractLsb' 10 2 = 3 ∧
      2 ≤ (h.extractLsb' 5 2).toNat) ∨
    (quadrantOf h = 2 ∧ cFunct3Of h ∈ [1, 5]) ∨
    (quadrantOf h = 2 ∧ cFunct3Of h ∈ [2, 3] ∧ cRdOf h = 0) ∨
    (quadrantOf h = 2 ∧ cFunct3Of h = 4 ∧ h.extractLsb' 12 1 = 0 ∧ cRdOf h = 0 ∧ cRs2Of h = 0) →
    ∃ e, decode (h.setWidth 32) .two = .error e)

/-! ## A step runs the decoded instruction -/

/-- On the sequential reference a step runs exactly the meaning of the instruction fetched at pc, and adds nothing around
it (R264 items 1 to 6). -/
def Obligations.StepRunsTheDecodedInstruction : Prop :=
  ∀ (s : State) (len : Len) (word : InstWord) (i : Instr),
    configError s.cfg s.plat = none → s.status = .running → s.engine = .reference →
    s.fetchWord s.pc = some (len, word) → decode word len = .ok i →
    step s = exec i s

/-- When the bytes at pc are an instruction's encoding and lie in the memory region, that instruction runs, whatever
stands after it in memory (R40, R57, R264). -/
def Obligations.EncodedBytesAtPcRun : Prop :=
  ∀ (s : State) (i : Instr),
    configError s.cfg s.plat = none → s.status = .running → s.engine = .reference → i.wellFormed = true →
    InRegion s s.pc (lenOf i).bytes →
    (∀ k < (lenOf i).bytes, s.mem.byte (s.pc.toNat + k) = (encode i).extractLsb' (8 * k) 8) →
    step s = exec i s

/-- A fetch outside the memory region and a word the Decoder refuses end the run with their error and change nothing
else (R243, R244, R264 items 1 and 2). The address a FetchFault names is the instruction's (log entry 5). -/
def Obligations.FetchErrorsEndTheReferenceRun : Prop :=
  ∀ s : State, configError s.cfg s.plat = none → s.status = .running → s.engine = .reference →
    (¬ InRegion s s.pc 2 → EndsRun s (step s) (.error (.fetchFault s.pc))) ∧
    (InRegion s s.pc 2 → (s.mem.byte s.pc.toNat).extractLsb' 0 2 = 3 → ¬ InRegion s s.pc 4 →
      EndsRun s (step s) (.error (.fetchFault s.pc))) ∧
    (∀ len word e, s.fetchWord s.pc = some (len, word) → decode word len = .error e →
      EndsRun s (step s) (.error (.illegalInstruction s.pc word)))

/-! ## Integer computational instructions (43_integer_alu.md) -/

/-- LUI, AUIPC, ADDI, SLTI, SLTIU, ADD, SUB, SLT and SLTU (R136 to R140, R147, R148, R150, R151). -/
def Obligations.AddAndCompareResults : Prop :=
  ∀ (s : State) (rd rs1 rs2 : Reg) (imm : BitVec 12) (imm20 : BitVec 20),
    WritesReg s (exec (.lui rd imm20) s) rd (fun v => v.toInt = imm20.toInt * 2 ^ 12) s.next4 ∧
    WritesReg s (exec (.auipc rd imm20) s) rd (isMod64 (s.pc.toNat + imm20.toInt * 2 ^ 12)) s.next4 ∧
    WritesReg s (exec (.addi rd rs1 imm) s) rd (isMod64 ((s.reg rs1).toNat + imm.toInt)) s.next4 ∧
    WritesReg s (exec (.slti rd rs1 imm) s) rd
      (fun v => v.toNat = if (s.reg rs1).toInt < imm.toInt then 1 else 0) s.next4 ∧
    WritesReg s (exec (.sltiu rd rs1 imm) s) rd
      (fun v => v.toNat = if ((s.reg rs1).toNat : Int) < imm.toInt % 2 ^ 64 then 1 else 0) s.next4 ∧
    WritesReg s (exec (.add rd rs1 rs2) s) rd (isMod64 ((s.reg rs1).toNat + (s.reg rs2).toNat)) s.next4 ∧
    WritesReg s (exec (.sub rd rs1 rs2) s) rd (isMod64 ((s.reg rs1).toNat - (s.reg rs2).toNat)) s.next4 ∧
    WritesReg s (exec (.slt rd rs1 rs2) s) rd
      (fun v => v.toNat = if (s.reg rs1).toInt < (s.reg rs2).toInt then 1 else 0) s.next4 ∧
    WritesReg s (exec (.sltu rd rs1 rs2) s) rd
      (fun v => v.toNat = if (s.reg rs1).toNat < (s.reg rs2).toNat then 1 else 0) s.next4

/-- XORI, ORI, ANDI, XOR, OR and AND, bit by bit; bit k of a sign-extended 12-bit immediate is its bit min(k, 11) (R141
to R143, R152, R155, R156). -/
def Obligations.LogicResults : Prop :=
  ∀ (s : State) (rd rs1 rs2 : Reg) (imm : BitVec 12),
    WritesReg s (exec (.xori rd rs1 imm) s) rd
      (fun v => ∀ k < 64, v.getLsbD k = Bool.xor ((s.reg rs1).getLsbD k) (imm.getLsbD (min k 11))) s.next4 ∧
    WritesReg s (exec (.ori rd rs1 imm) s) rd
      (fun v => ∀ k < 64, v.getLsbD k = ((s.reg rs1).getLsbD k || imm.getLsbD (min k 11))) s.next4 ∧
    WritesReg s (exec (.andi rd rs1 imm) s) rd
      (fun v => ∀ k < 64, v.getLsbD k = ((s.reg rs1).getLsbD k && imm.getLsbD (min k 11))) s.next4 ∧
    WritesReg s (exec (.xor rd rs1 rs2) s) rd
      (fun v => ∀ k < 64, v.getLsbD k = Bool.xor ((s.reg rs1).getLsbD k) ((s.reg rs2).getLsbD k)) s.next4 ∧
    WritesReg s (exec (.or rd rs1 rs2) s) rd
      (fun v => ∀ k < 64, v.getLsbD k = ((s.reg rs1).getLsbD k || (s.reg rs2).getLsbD k)) s.next4 ∧
    WritesReg s (exec (.and rd rs1 rs2) s) rd
      (fun v => ∀ k < 64, v.getLsbD k = ((s.reg rs1).getLsbD k && (s.reg rs2).getLsbD k)) s.next4

/-- SLLI, SRLI, SRAI, SLL, SRL and SRA: a register shift amount is taken modulo 64, and a right shift is a division
rounded down (R144 to R146, R149, R153, R154). -/
def Obligations.ShiftResults : Prop :=
  ∀ (s : State) (rd rs1 rs2 : Reg) (shamt : BitVec 6),
    WritesReg s (exec (.slli rd rs1 shamt) s) rd (isMod64 ((s.reg rs1).toNat * 2 ^ shamt.toNat)) s.next4 ∧
    WritesReg s (exec (.srli rd rs1 shamt) s) rd
      (fun v => v.toNat = (s.reg rs1).toNat / 2 ^ shamt.toNat) s.next4 ∧
    WritesReg s (exec (.srai rd rs1 shamt) s) rd
      (fun v => v.toInt = (s.reg rs1).toInt.fdiv (2 ^ shamt.toNat)) s.next4 ∧
    WritesReg s (exec (.sll rd rs1 rs2) s) rd
      (isMod64 ((s.reg rs1).toNat * 2 ^ ((s.reg rs2).toNat % 64))) s.next4 ∧
    WritesReg s (exec (.srl rd rs1 rs2) s) rd
      (fun v => v.toNat = (s.reg rs1).toNat / 2 ^ ((s.reg rs2).toNat % 64)) s.next4 ∧
    WritesReg s (exec (.sra rd rs1 rs2) s) rd
      (fun v => v.toInt = (s.reg rs1).toInt.fdiv (2 ^ ((s.reg rs2).toNat % 64))) s.next4

/-- ADDIW, ADDW, SUBW, SLLIW, SRLIW, SRAIW, SLLW, SRLW and SRAW: the low 32 bits of the result, sign-extended (R157 to
R165). -/
def Obligations.WordFormResults : Prop :=
  ∀ (s : State) (rd rs1 rs2 : Reg) (imm : BitVec 12) (shamt : BitVec 5),
    WritesReg s (exec (.addiw rd rs1 imm) s) rd (isSext32 ((s.reg rs1).toNat + imm.toInt)) s.next4 ∧
    WritesReg s (exec (.addw rd rs1 rs2) s) rd (isSext32 ((s.reg rs1).toNat + (s.reg rs2).toNat)) s.next4 ∧
    WritesReg s (exec (.subw rd rs1 rs2) s) rd (isSext32 ((s.reg rs1).toNat - (s.reg rs2).toNat)) s.next4 ∧
    WritesReg s (exec (.slliw rd rs1 shamt) s) rd (isSext32 ((s.reg rs1).toNat * 2 ^ shamt.toNat)) s.next4 ∧
    WritesReg s (exec (.srliw rd rs1 shamt) s) rd
      (isSext32 ((s.reg rs1).toNat % 2 ^ 32 / 2 ^ shamt.toNat)) s.next4 ∧
    WritesReg s (exec (.sraiw rd rs1 shamt) s) rd
      (fun v => v.toInt = (((s.reg rs1).toNat : Int).bmod (2 ^ 32)).fdiv (2 ^ shamt.toNat)) s.next4 ∧
    WritesReg s (exec (.sllw rd rs1 rs2) s) rd
      (isSext32 ((s.reg rs1).toNat * 2 ^ ((s.reg rs2).toNat % 32))) s.next4 ∧
    WritesReg s (exec (.srlw rd rs1 rs2) s) rd
      (isSext32 ((s.reg rs1).toNat % 2 ^ 32 / 2 ^ ((s.reg rs2).toNat % 32))) s.next4 ∧
    WritesReg s (exec (.sraw rd rs1 rs2) s) rd
      (fun v => v.toInt = (((s.reg rs1).toNat : Int).bmod (2 ^ 32)).fdiv (2 ^ ((s.reg rs2).toNat % 32))) s.next4

/-! ## Multiply and divide (44_muldiv.md) -/

/-- MUL, MULH, MULHSU, MULHU and MULW: the low or the high half of the exact product (R166 to R169, R174). -/
def Obligations.MultiplyResults : Prop :=
  ∀ (s : State) (rd rs1 rs2 : Reg),
    WritesReg s (exec (.mul rd rs1 rs2) s) rd (isMod64 ((s.reg rs1).toNat * (s.reg rs2).toNat)) s.next4 ∧
    WritesReg s (exec (.mulh rd rs1 rs2) s) rd
      (fun v => v.toInt = ((s.reg rs1).toInt * (s.reg rs2).toInt).fdiv (2 ^ 64)) s.next4 ∧
    WritesReg s (exec (.mulhsu rd rs1 rs2) s) rd
      (fun v => v.toInt = ((s.reg rs1).toInt * ((s.reg rs2).toNat : Int)).fdiv (2 ^ 64)) s.next4 ∧
    WritesReg s (exec (.mulhu rd rs1 rs2) s) rd
      (fun v => v.toNat = (s.reg rs1).toNat * (s.reg rs2).toNat / 2 ^ 64) s.next4 ∧
    WritesReg s (exec (.mulw rd rs1 rs2) s) rd (isSext32 ((s.reg rs1).toNat * (s.reg rs2).toNat)) s.next4

/-- DIV, DIVU, REM and REMU, with division by zero and the signed overflow: no case traps (R170 to R173). -/
def Obligations.DivideResults : Prop :=
  ∀ (s : State) (rd rs1 rs2 : Reg),
    WritesReg s (exec (.div rd rs1 rs2) s) rd
      (fun v => v.toInt =
        if (s.reg rs2).toInt = 0 then -1
        else if (s.reg rs1).toInt = -2 ^ 63 ∧ (s.reg rs2).toInt = -1 then -2 ^ 63
        else (s.reg rs1).toInt.tdiv (s.reg rs2).toInt) s.next4 ∧
    WritesReg s (exec (.divu rd rs1 rs2) s) rd
      (fun v => v.toNat =
        if (s.reg rs2).toNat = 0 then 2 ^ 64 - 1 else (s.reg rs1).toNat / (s.reg rs2).toNat) s.next4 ∧
    WritesReg s (exec (.rem rd rs1 rs2) s) rd
      (fun v => v.toInt =
        if (s.reg rs2).toInt = 0 then (s.reg rs1).toInt
        else if (s.reg rs1).toInt = -2 ^ 63 ∧ (s.reg rs2).toInt = -1 then 0
        else (s.reg rs1).toInt.tmod (s.reg rs2).toInt) s.next4 ∧
    WritesReg s (exec (.remu rd rs1 rs2) s) rd
      (fun v => v.toNat =
        if (s.reg rs2).toNat = 0 then (s.reg rs1).toNat else (s.reg rs1).toNat % (s.reg rs2).toNat) s.next4

/-- DIVW, DIVUW, REMW and REMUW on the low 32 bits of the operands (R175 to R178). -/
def Obligations.DivideWordResults : Prop :=
  ∀ (s : State) (rd rs1 rs2 : Reg),
    let x : Int := ((s.reg rs1).toNat : Int).bmod (2 ^ 32)
    let y : Int := ((s.reg rs2).toNat : Int).bmod (2 ^ 32)
    let n : Nat := (s.reg rs1).toNat % 2 ^ 32
    let m : Nat := (s.reg rs2).toNat % 2 ^ 32
    WritesReg s (exec (.divw rd rs1 rs2) s) rd
      (fun v => v.toInt = if y = 0 then -1 else if x = -2 ^ 31 ∧ y = -1 then -2 ^ 31 else x.tdiv y) s.next4 ∧
    WritesReg s (exec (.divuw rd rs1 rs2) s) rd
      (fun v => v.toInt = if m = 0 then -1 else ((n / m : Nat) : Int).bmod (2 ^ 32)) s.next4 ∧
    WritesReg s (exec (.remw rd rs1 rs2) s) rd
      (fun v => v.toInt = if y = 0 then x else if x = -2 ^ 31 ∧ y = -1 then 0 else x.tmod y) s.next4 ∧
    WritesReg s (exec (.remuw rd rs1 rs2) s) rd
      (fun v => v.toInt = if m = 0 then x else ((n % m : Nat) : Int).bmod (2 ^ 32)) s.next4

/-! ## Control transfer (45_control_transfer.md) -/

/-- JAL and JALR: the link is the address after the instruction, and JALR's target is computed from the old rs1 with bit 0
cleared (R179, R180). -/
def Obligations.JumpResults : Prop :=
  ∀ (s : State) (rd rs1 : Reg) (offset : BitVec 21) (imm : BitVec 12),
    WritesReg s (exec (.jal rd offset) s) rd (isMod64 (s.pc.toNat + 4)) (isMod64 (s.pc.toNat + offset.toInt)) ∧
    WritesReg s (exec (.jalr rd rs1 imm) s) rd (isMod64 (s.pc.toNat + 4))
      (fun p => (p.toNat : Int) = ((s.reg rs1).toNat + imm.toInt) % 2 ^ 64 / 2 * 2)

/-- The six conditional branches: only pc moves, to the target when the condition holds and past the branch when it does
not (R181 to R186). -/
def Obligations.BranchResults : Prop :=
  ∀ (s : State) (rs1 rs2 : Reg) (offset : BitVec 13),
    OnlyMovesPc s (exec (.beq rs1 rs2 offset) s)
      (isMod64 (s.pc.toNat + if s.reg rs1 = s.reg rs2 then offset.toInt else 4)) ∧
    OnlyMovesPc s (exec (.bne rs1 rs2 offset) s)
      (isMod64 (s.pc.toNat + if s.reg rs1 ≠ s.reg rs2 then offset.toInt else 4)) ∧
    OnlyMovesPc s (exec (.blt rs1 rs2 offset) s)
      (isMod64 (s.pc.toNat + if (s.reg rs1).toInt < (s.reg rs2).toInt then offset.toInt else 4)) ∧
    OnlyMovesPc s (exec (.bge rs1 rs2 offset) s)
      (isMod64 (s.pc.toNat + if (s.reg rs1).toInt ≥ (s.reg rs2).toInt then offset.toInt else 4)) ∧
    OnlyMovesPc s (exec (.bltu rs1 rs2 offset) s)
      (isMod64 (s.pc.toNat + if (s.reg rs1).toNat < (s.reg rs2).toNat then offset.toInt else 4)) ∧
    OnlyMovesPc s (exec (.bgeu rs1 rs2 offset) s)
      (isMod64 (s.pc.toNat + if (s.reg rs1).toNat ≥ (s.reg rs2).toNat then offset.toInt else 4))

/-! ## Loads and stores (46_loads_stores.md) -/

/-- The seven loads, in range: the little-endian sum of the bytes at the effective address, at any alignment,
sign-extended or zero-extended; the effective address is `(a + imm) mod 2^64` (R40, R43, R187 to R193). -/
def Obligations.LoadResults : Prop :=
  ∀ (s : State) (rd rs1 : Reg) (imm : BitVec 12),
    let a := effectiveAddress (s.reg rs1) (sext imm)
    isMod64 ((s.reg rs1).toNat + imm.toInt) a ∧
    (InRegion s a 1 →
      WritesReg s (exec (.lb rd rs1 imm) s) rd
        (fun v => v.toInt = (littleEndianSum s.mem a.toNat 1 : Int).bmod (2 ^ 8)) s.next4 ∧
      WritesReg s (exec (.lbu rd rs1 imm) s) rd (fun v => v.toNat = littleEndianSum s.mem a.toNat 1) s.next4) ∧
    (InRegion s a 2 →
      WritesReg s (exec (.lh rd rs1 imm) s) rd
        (fun v => v.toInt = (littleEndianSum s.mem a.toNat 2 : Int).bmod (2 ^ 16)) s.next4 ∧
      WritesReg s (exec (.lhu rd rs1 imm) s) rd (fun v => v.toNat = littleEndianSum s.mem a.toNat 2) s.next4) ∧
    (InRegion s a 4 →
      WritesReg s (exec (.lw rd rs1 imm) s) rd
        (fun v => v.toInt = (littleEndianSum s.mem a.toNat 4 : Int).bmod (2 ^ 32)) s.next4 ∧
      WritesReg s (exec (.lwu rd rs1 imm) s) rd (fun v => v.toNat = littleEndianSum s.mem a.toNat 4) s.next4) ∧
    (InRegion s a 8 →
      WritesReg s (exec (.ld rd rs1 imm) s) rd (fun v => v.toNat = littleEndianSum s.mem a.toNat 8) s.next4)

/-- The four stores, in range: the low bytes of rs2 at the effective address, and no other byte (R41, R43, R194 to R197).
The memory is in its canonical form, which every step keeps (`InvariantIsKept`). -/
def Obligations.StoreResults : Prop :=
  ∀ (s : State) (rs2 rs1 : Reg) (imm : BitVec 12), s.mem.wf →
    let a := effectiveAddress (s.reg rs1) (sext imm)
    isMod64 ((s.reg rs1).toNat + imm.toInt) a ∧
    (InRegion s a 1 → StoresBytes s (exec (.sb rs2 rs1 imm) s) a 1 (s.reg rs2) s.next4) ∧
    (InRegion s a 2 → StoresBytes s (exec (.sh rs2 rs1 imm) s) a 2 (s.reg rs2) s.next4) ∧
    (InRegion s a 4 → StoresBytes s (exec (.sw rs2 rs1 imm) s) a 4 (s.reg rs2) s.next4) ∧
    (InRegion s a 8 → StoresBytes s (exec (.sd rs2 rs1 imm) s) a 8 (s.reg rs2) s.next4)

/-- A load or store that is not in range, in every form: the run ends with MemoryFault, and no register, no byte and not
even pc changes (R39, R245, R264 item 3). -/
def Obligations.OutOfRangeAccessFaults : Prop :=
  ∀ (s : State) (r rs1 : Reg) (imm : BitVec 12),
    let a := effectiveAddress (s.reg rs1) (sext imm)
    let fault := Status.error (.memoryFault s.pc a)
    (¬ InRegion s a 1 →
      EndsRun s (exec (.lb r rs1 imm) s) fault ∧ EndsRun s (exec (.lbu r rs1 imm) s) fault ∧
      EndsRun s (exec (.sb r rs1 imm) s) fault) ∧
    (¬ InRegion s a 2 →
      EndsRun s (exec (.lh r rs1 imm) s) fault ∧ EndsRun s (exec (.lhu r rs1 imm) s) fault ∧
      EndsRun s (exec (.sh r rs1 imm) s) fault) ∧
    (¬ InRegion s a 4 →
      EndsRun s (exec (.lw r rs1 imm) s) fault ∧ EndsRun s (exec (.lwu r rs1 imm) s) fault ∧
      EndsRun s (exec (.sw r rs1 imm) s) fault) ∧
    (¬ InRegion s a 8 →
      EndsRun s (exec (.ld r rs1 imm) s) fault ∧ EndsRun s (exec (.sd r rs1 imm) s) fault)

/-- `MemRead` and `MemWrite` (R40, R41): a read is the little-endian sum of its bytes, the fetched word of an instruction
too, and a write sets its bytes and changes no other. -/
def Obligations.MemoryAccessByBytes : Prop :=
  (∀ (s : State) (a : Word) (n : Nat) (v : Word), s.mem.wf → n ∈ [1, 2, 4, 8] → s.inRange a n = true →
    s.memRead a n = ((List.range n).map fun i => (s.mem.byte (a.toNat + i)).toNat * 2 ^ (8 * i)).sum ∧
    (∀ i < n, (s.memWrite a n v).mem.byte (a.toNat + i) = v.extractLsb' (8 * i) 8) ∧
    SameBytesOutside s (s.memWrite a n v) a.toNat n ∧
    (s.memWrite a n v).memRead a n = v.toNat % 2 ^ (8 * n)) ∧
  (∀ (s : State) (a : Word) (len : Len) (word : InstWord), s.fetchWord a = some (len, word) →
    word.toNat = littleEndianSum s.mem a.toNat len.bytes)

/-! ## System and synchronisation (47_system.md) -/

/-- FENCE and FENCE.I, with any value in their ignored fields, only go on (R66, R198, R199, R264 item 5). -/
def Obligations.FencesOnlyGoOn : Prop :=
  ∀ (s : State) (fm pred succ : BitVec 4) (imm : BitVec 12) (rs1 rd : Reg),
    OnlyMovesPc s (exec (.fence fm pred succ rs1 rd) s) s.next4 ∧
    OnlyMovesPc s (exec (.fenceI imm rs1 rd) s) s.next4

/-- EBREAK and C.EBREAK halt the run, and nothing else changes (R201, R233, R264 item 5). -/
def Obligations.BreakHaltsTheRun : Prop :=
  ∀ s : State, EndsRun s (exec .ebreak s) (.halted .ebreak) ∧ EndsRun s (exec .cEbreak s) (.halted .ebreak)

/-- ECALL with the reference host: exit, write (of nothing, of a buffer, of a buffer out of range), and any other service
(R200, R252). -/
def Obligations.EcallWithTheReferenceHost : Prop :=
  ∀ s : State, s.plat.host = .testHost →
    (s.reg 17 = 93 → EndsRun s (exec .ecall s) (.halted .exit)) ∧
    (s.reg 17 = 64 → s.reg 12 = 0 → WritesReg s (exec .ecall s) 10 (fun v => v = 0) s.next4) ∧
    (s.reg 17 = 64 → s.reg 12 ≠ 0 → InRegion s (s.reg 11) (s.reg 12).toNat →
      ∃ t, exec .ecall s = .next t ∧ RegWritten s t 10 (s.reg 12) ∧ s.next4 t.pc ∧ SameBytes s t ∧
        t.out = s.out ++ (List.range (s.reg 12).toNat).map (fun k => s.mem.byte ((s.reg 11).toNat + k)) ∧
        t.status = s.status ∧ SameMachine s t) ∧
    (s.reg 17 = 64 → s.reg 12 ≠ 0 → ¬ InRegion s (s.reg 11) (s.reg 12).toNat →
      EndsRun s (exec .ecall s) (.error (.memoryFault s.pc (s.reg 11)))) ∧
    (s.reg 17 ≠ 93 → s.reg 17 ≠ 64 → EndsRun s (exec .ecall s) (.refused (.hostService s.pc)))

/-- ECALL with any host, by its verdict: the changes take effect for `Continue` and `Exit` and are discarded for `Fault`
and `Refuse` (R200, R251). The second half is the model's form of an answer, and no rule's: the answer is a list of writes
of which the last to a place stands, and of bytes appended (log entry 16), and a write to x0 or outside the memory region,
which R251 forbids a host, has no effect (log entry 14). What a host other than the reference host answers is a free value
(log entry 2). -/
def Obligations.EcallWithAnyHost : Prop :=
  ∀ s : State,
    (∃ t, exec .ecall s = .next t ∧ SameMachine s t ∧
      (match s.hostReply.verdict with
      | .continue => s.next4 t.pc ∧ t.status = s.status ∧ t.regs = (s.applyReply s.hostReply).regs ∧
          t.mem = (s.applyReply s.hostReply).mem ∧ t.out = (s.applyReply s.hostReply).out
      | .exit => t.pc = s.pc ∧ t.status = .halted .exit ∧ t.regs = (s.applyReply s.hostReply).regs ∧
          t.mem = (s.applyReply s.hostReply).mem ∧ t.out = (s.applyReply s.hostReply).out
      | .fault addr => EndsRun s (.next t) (.error (.memoryFault s.pc addr))
      | .refuse => EndsRun s (.next t) (.refused (.hostService s.pc)))) ∧
    ∀ r : HostReply, s.mem.wf →
      let t := s.applyReply r
      t.out = s.out ++ r.appended ∧ t.reg 0 = 0 ∧
      (∀ x : Reg, (∀ p ∈ r.regWrites, p.1 ≠ x) → t.reg x = s.reg x) ∧
      (∀ pre x v post, r.regWrites = pre ++ (x, v) :: post → x ≠ 0 → (∀ p ∈ post, p.1 ≠ x) → t.reg x = v) ∧
      (∀ a : Nat, ((∀ p ∈ r.memWrites, p.1 ≠ a) ∨ a < s.plat.memBase ∨ s.plat.memBase + s.plat.memSize ≤ a) →
        t.mem.byte a = s.mem.byte a) ∧
      (∀ pre a v post, r.memWrites = pre ++ (a, v) :: post → s.plat.memBase ≤ a →
        a < s.plat.memBase + s.plat.memSize → (∀ p ∈ post, p.1 ≠ a) → t.mem.byte a = v)

/-! ## Compressed instructions (48_compressed.md) -/

/-- C.ADDI4SPN, C.NOP, C.ADDI, C.ADDIW, C.LI, C.ADDI16SP, C.LUI and C.ANDI; a primed field names x8..x15 (R63, R205, R210
to R215, R218). -/
def Obligations.CompressedImmediateResults : Prop :=
  ∀ (s : State) (rd : Reg) (rdp : CReg) (imm : BitVec 6) (u : BitVec 10) (nz : BitVec 18),
    (primed rdp).toNat = 8 + rdp.toNat ∧
    WritesReg s (exec (.cAddi4spn rdp u) s) (primed rdp) (isMod64 ((s.reg 2).toNat + u.toNat)) s.next2 ∧
    OnlyMovesPc s (exec (.cNop imm) s) s.next2 ∧
    WritesReg s (exec (.cAddi rd imm) s) rd (isMod64 ((s.reg rd).toNat + imm.toInt)) s.next2 ∧
    WritesReg s (exec (.cAddiw rd imm) s) rd (isSext32 ((s.reg rd).toNat + imm.toInt)) s.next2 ∧
    WritesReg s (exec (.cLi rd imm) s) rd (fun v => v.toInt = imm.toInt) s.next2 ∧
    WritesReg s (exec (.cAddi16sp u) s) 2 (isMod64 ((s.reg 2).toNat + u.toInt)) s.next2 ∧
    WritesReg s (exec (.cLui rd nz) s) rd (fun v => v.toInt = nz.toInt) s.next2 ∧
    WritesReg s (exec (.cAndi rdp imm) s) (primed rdp)
      (fun v => ∀ k < 64, v.getLsbD k = ((s.reg (primed rdp)).getLsbD k && imm.getLsbD (min k 5))) s.next2

/-- C.SRLI, C.SRAI, C.SLLI, C.SUB, C.XOR, C.OR, C.AND, C.SUBW, C.ADDW, C.MV and C.ADD (R216, R217, R219 to R224, R228,
R232, R235). -/
def Obligations.CompressedRegisterResults : Prop :=
  ∀ (s : State) (rd rs2 : Reg) (rdp rs2p : CReg) (shamt : BitVec 6),
    let a := s.reg (primed rdp)
    let b := s.reg (primed rs2p)
    WritesReg s (exec (.cSrli rdp shamt) s) (primed rdp) (fun v => v.toNat = a.toNat / 2 ^ shamt.toNat) s.next2 ∧
    WritesReg s (exec (.cSrai rdp shamt) s) (primed rdp) (fun v => v.toInt = a.toInt.fdiv (2 ^ shamt.toNat)) s.next2 ∧
    WritesReg s (exec (.cSlli rd shamt) s) rd (isMod64 ((s.reg rd).toNat * 2 ^ shamt.toNat)) s.next2 ∧
    WritesReg s (exec (.cSub rdp rs2p) s) (primed rdp) (isMod64 (a.toNat - b.toNat)) s.next2 ∧
    WritesReg s (exec (.cXor rdp rs2p) s) (primed rdp)
      (fun v => ∀ k < 64, v.getLsbD k = Bool.xor (a.getLsbD k) (b.getLsbD k)) s.next2 ∧
    WritesReg s (exec (.cOr rdp rs2p) s) (primed rdp)
      (fun v => ∀ k < 64, v.getLsbD k = (a.getLsbD k || b.getLsbD k)) s.next2 ∧
    WritesReg s (exec (.cAnd rdp rs2p) s) (primed rdp)
      (fun v => ∀ k < 64, v.getLsbD k = (a.getLsbD k && b.getLsbD k)) s.next2 ∧
    WritesReg s (exec (.cSubw rdp rs2p) s) (primed rdp) (isSext32 (a.toNat - b.toNat)) s.next2 ∧
    WritesReg s (exec (.cAddw rdp rs2p) s) (primed rdp) (isSext32 (a.toNat + b.toNat)) s.next2 ∧
    WritesReg s (exec (.cMv rd rs2) s) rd (fun v => v = s.reg rs2) s.next2 ∧
    WritesReg s (exec (.cAdd rd rs2) s) rd (isMod64 ((s.reg rd).toNat + (s.reg rs2).toNat)) s.next2

/-- C.LW, C.LD, C.SW, C.SD, C.LWSP, C.LDSP, C.SWSP and C.SDSP, in range and out of range: the offset is unsigned and the
base of the stack forms is x2 (R206 to R209, R229, R230, R236, R237). -/
def Obligations.CompressedLoadStoreResults : Prop :=
  ∀ (s : State) (rd rs2 : Reg) (rdp rs1p : CReg) (u7 : BitVec 7) (u8 : BitVec 8) (u9 : BitVec 9), s.mem.wf →
    let w := effectiveAddress (s.reg (primed rs1p)) (zext u7)
    let d := effectiveAddress (s.reg (primed rs1p)) (zext u8)
    let ws := effectiveAddress (s.reg 2) (zext u8)
    let ds := effectiveAddress (s.reg 2) (zext u9)
    (isMod64 ((s.reg (primed rs1p)).toNat + u7.toNat) w ∧ isMod64 ((s.reg (primed rs1p)).toNat + u8.toNat) d ∧
      isMod64 ((s.reg 2).toNat + u8.toNat) ws ∧ isMod64 ((s.reg 2).toNat + u9.toNat) ds) ∧
    (InRegion s w 4 →
      WritesReg s (exec (.cLw rdp rs1p u7) s) (primed rdp)
        (fun v => v.toInt = (littleEndianSum s.mem w.toNat 4 : Int).bmod (2 ^ 32)) s.next2 ∧
      StoresBytes s (exec (.cSw rdp rs1p u7) s) w 4 (s.reg (primed rdp)) s.next2) ∧
    (¬ InRegion s w 4 →
      EndsRun s (exec (.cLw rdp rs1p u7) s) (.error (.memoryFault s.pc w)) ∧
      EndsRun s (exec (.cSw rdp rs1p u7) s) (.error (.memoryFault s.pc w))) ∧
    (InRegion s d 8 →
      WritesReg s (exec (.cLd rdp rs1p u8) s) (primed rdp) (fun v => v.toNat = littleEndianSum s.mem d.toNat 8) s.next2 ∧
      StoresBytes s (exec (.cSd rdp rs1p u8) s) d 8 (s.reg (primed rdp)) s.next2) ∧
    (¬ InRegion s d 8 →
      EndsRun s (exec (.cLd rdp rs1p u8) s) (.error (.memoryFault s.pc d)) ∧
      EndsRun s (exec (.cSd rdp rs1p u8) s) (.error (.memoryFault s.pc d))) ∧
    (InRegion s ws 4 →
      WritesReg s (exec (.cLwsp rd u8) s) rd
        (fun v => v.toInt = (littleEndianSum s.mem ws.toNat 4 : Int).bmod (2 ^ 32)) s.next2 ∧
      StoresBytes s (exec (.cSwsp rs2 u8) s) ws 4 (s.reg rs2) s.next2) ∧
    (¬ InRegion s ws 4 →
      EndsRun s (exec (.cLwsp rd u8) s) (.error (.memoryFault s.pc ws)) ∧
      EndsRun s (exec (.cSwsp rs2 u8) s) (.error (.memoryFault s.pc ws))) ∧
    (InRegion s ds 8 →
      WritesReg s (exec (.cLdsp rd u9) s) rd (fun v => v.toNat = littleEndianSum s.mem ds.toNat 8) s.next2 ∧
      StoresBytes s (exec (.cSdsp rs2 u9) s) ds 8 (s.reg rs2) s.next2) ∧
    (¬ InRegion s ds 8 →
      EndsRun s (exec (.cLdsp rd u9) s) (.error (.memoryFault s.pc ds)) ∧
      EndsRun s (exec (.cSdsp rs2 u9) s) (.error (.memoryFault s.pc ds)))

/-- C.J, C.BEQZ, C.BNEZ, C.JR and C.JALR: C.J and C.JR link nothing, and C.JALR links x1 with the address 2 bytes on (R225
to R227, R231, R234). -/
def Obligations.CompressedControlResults : Prop :=
  ∀ (s : State) (rs1 : Reg) (rs1p : CReg) (off12 : BitVec 12) (off9 : BitVec 9),
    OnlyMovesPc s (exec (.cJ off12) s) (isMod64 (s.pc.toNat + off12.toInt)) ∧
    OnlyMovesPc s (exec (.cBeqz rs1p off9) s)
      (isMod64 (s.pc.toNat + if s.reg (primed rs1p) = 0 then off9.toInt else 2)) ∧
    OnlyMovesPc s (exec (.cBnez rs1p off9) s)
      (isMod64 (s.pc.toNat + if s.reg (primed rs1p) ≠ 0 then off9.toInt else 2)) ∧
    OnlyMovesPc s (exec (.cJr rs1) s) (fun p => p.toNat = (s.reg rs1).toNat / 2 * 2) ∧
    WritesReg s (exec (.cJalr rs1) s) 1 (isMod64 (s.pc.toNat + 2)) (fun p => p.toNat = (s.reg rs1).toNat / 2 * 2)

/-! ## The two descriptions of an instruction agree -/

/-- The meaning of every instruction is R14's sequential step over its decoded record and the ComputeUnit, the function
the pipeline applies (R14, R27, R87, R202): for every instruction, compressed ones too, in every state. So the machine is
the parameterised one with the reference Decoder, ComputeUnit and MemoryBus (R10; log entry 19). -/
def Obligations.MeaningIsTheRecordStep : Prop :=
  (∀ (i : Instr) (s : State), exec i s = .next (s.recordStep (recordOf i))) ∧
  ∀ s : State, step s = stepWith s .reference

/-! ## Launch, configuration and the end of a run -/

/-- The state a launch makes is the reset state of R261: the launch registers with 0 where the launch gives none and x0
always 0, the image with 0 for every byte it leaves out, and every other item at its reset value. Where the launch gives
a register or a byte more than once the last one stands (log entry 11). -/
def Obligations.LaunchMakesTheResetState : Prop :=
  ∀ (e : Engine) (c : Config) (p : Platform) (given : List (Reg × Word)) (image : List Host.Cell) (s : State),
    launch e c p given image = .ok s →
    s.reg 0 = 0 ∧
    (∀ r : Reg, (∀ q ∈ given, q.1 ≠ r) → s.reg r = 0) ∧
    (∀ pre r v post, given = pre ++ (r, v) :: post → r ≠ 0 → (∀ q ∈ post, q.1 ≠ r) → s.reg r = v) ∧
    s.pc = p.entry ∧
    (∀ a : Nat, (∀ q ∈ image, q.1 ≠ a) → s.mem.byte a = 0) ∧
    (∀ pre a v post, image = pre ++ (a, v) :: post → p.memBase ≤ a → a < p.memBase + p.memSize →
      (∀ q ∈ post, q.1 ≠ a) → s.mem.byte a = v) ∧
    s.out = [] ∧ s.status = .running ∧
    (∀ l ∈ [s.ifid, s.idex, s.exmem, s.memwb],
      l.lanes.length = c.width ∧ AllBubbles l.lanes ∧ l.hasContent = false ∧ l.isStalled = false) ∧
    (∀ i : Nat, s.counter i = c.initCounter) ∧ s.ghr = 0 ∧ s.rasStack = [] ∧
    [s.metrics.cycles, s.metrics.isaRetired, s.metrics.committed, s.metrics.stalls, s.metrics.splits,
      s.metrics.flushes, s.metrics.mispredicts, s.metrics.condBranches, s.metrics.dirCorrect] = List.replicate 9 0 ∧
    s.fetchMode = .run ∧ s.cfg = c ∧ s.plat = p ∧ s.engine = e

/-- The checks of R240, in their order: a launch is refused with the field of the first one that fails. Check 8 holds by
the type of the budget, and the others are over the model's types of the fields (log entry 13); both parts of check 9
name `MEM_SIZE` (log entry 6). That `step` answers the fault ConfigurationError from a state that has such a
configuration, which no launch makes, is the model's (log entry 18). -/
def Obligations.ConfigurationChecksInOrder : Prop :=
  ∀ (c : Config) (p : Platform),
    let checks : List (Bool × ConfigField) :=
      [(decide (1 ≤ c.width ∧ c.width ≤ 32), .w),
       (decide (0 < c.ratioNum ∧ 0 < c.ratioDen ∧
          4 ≤ ⌊(4 * (c.width : ℚ) * ((c.ratioNum : ℚ) / (c.ratioDen : ℚ)))⌋), .r),
       (decide (c.predictor = .static ∨ c.predictor = .bimodal ∨ c.predictor = .gshare), .predictor),
       (decide (1 ≤ c.counterBits ∧ c.counterBits ≤ 8), .n),
       (decide (1 ≤ c.tableBits ∧ c.tableBits ≤ 16), .tb),
       (decide (c.initCounter ≤ 2 ^ c.counterBits - 1), .initCounter),
       (decide (c.dbf = false), .dbf),
       (decide (1 ≤ c.rasDepth ∧ c.rasDepth ≤ 64), .rasd),
       (decide (1 ≤ p.memSize), .memSize),
       (decide (p.memBase + p.memSize ≤ 2 ^ 64), .memSize),
       (decide (p.entry.toNat % 2 = 0), .entry)]
    configError c p = (checks.find? fun q => !q.1).map Prod.snd ∧
    (∀ f, configError c p = some f →
      (∀ e given image, launch e c p given image = .error f) ∧
      (∀ s : State, s.cfg = c → s.plat = p → step s = .fault (.configurationError f))) ∧
    (configError c p = none → ∀ e given image, ∃ s, launch e c p given image = .ok s)

/-- The budget ends every run of the block: at most `budget` cycles run, and `NotHalted` is the end exactly when the
budget is used up and nothing else ended the run (R72, R246). A run that has ended changes no more (R242); that a step
then answers the same state is the model's form of it (log entry 7). -/
def Obligations.TheBudgetEndsEveryRun : Prop :=
  (∀ s : State, s.status = .running → s.metrics.cycles ≤ s.cfg.budget →
    s.pipelineRun.status ≠ .running ∧ s.pipelineRun.metrics.cycles ≤ s.cfg.budget ∧
    (s.pipelineRun.status = .notHalted → s.pipelineRun.metrics.cycles = s.cfg.budget)) ∧
  (∀ s : State, configError s.cfg s.plat = none → s.status ≠ .running → step s = .next s)

/-! ## Invariants and rules about every step -/

/-- The state right after reset meets the invariant (its configuration and platform: log entries 3 and 4). -/
def Obligations.ResetMeetsTheInvariant : Prop := State.reset.Inv

/-- Every step keeps the invariant, from every state that meets it: the memory stays canonical and in its region, x0 holds
0, pc and every address in flight stays even, the latches stay packed and hold only what the Decoder gives, and the
predictor, the stack and the metrics keep their bounds (R18, R20, R21, R26 to R34, R102, R253). -/
def Obligations.InvariantIsKept : Prop :=
  ∀ s t : State, s.Inv → step s = .next t → t.Inv

/-- A launched machine meets the invariant, and however long it runs it never stops with a fault or a refusal: the
run-time errors are statuses. That a step still answers a next state when the run has ended (log entry 7), and that the
turn of the run loop which sets NotHalted is a step (log entry 8), is the model's. -/
def Obligations.LaunchedMachinesRunSafely : Prop :=
  ∀ (e : Engine) (c : Config) (p : Platform) (given : List (Reg × Word)) (image : List Host.Cell) (s : State) (n : Nat),
    launch e c p given image = .ok s → SafeFor n s

/-- No step writes the configuration or the platform (R8), or changes which description takes the next step (log entry
1). -/
def Obligations.ConfigurationIsNeverWritten : Prop :=
  ∀ s t : State, step s = .next t → t.cfg = s.cfg ∧ t.plat = s.plat ∧ t.engine = s.engine

/-- The metrics are monotonic counters (R34): no step lowers one. A cycle counts itself once, at most one stall or split,
at most one flush, a mispredict only with a flush, at most as many retirements as MEMWB has lanes and at most as many
resolved branches as IDEX has; a step that is no cycle changes no counter (log entries 7, 8 and 15). -/
def Obligations.MetricsAreMonotonic : Prop :=
  ∀ s t : State, step s = .next t →
    let runsCycle := s.engine = .pipeline ∧ s.status = .running ∧ s.metrics.cycles < s.cfg.budget
    (runsCycle → t.metrics.cycles = s.metrics.cycles + 1) ∧ (¬ runsCycle → t.metrics = s.metrics) ∧
    (s.metrics.isaRetired ≤ t.metrics.isaRetired ∧
      t.metrics.isaRetired ≤ s.metrics.isaRetired + s.memwb.lanes.length) ∧
    (s.metrics.committed ≤ t.metrics.committed ∧
      t.metrics.committed - s.metrics.committed ≤ t.metrics.isaRetired - s.metrics.isaRetired) ∧
    s.metrics.stalls ≤ t.metrics.stalls ∧ s.metrics.splits ≤ t.metrics.splits ∧
    (t.metrics.stalls - s.metrics.stalls) + (t.metrics.splits - s.metrics.splits) ≤ 1 ∧
    (s.metrics.flushes ≤ t.metrics.flushes ∧ t.metrics.flushes ≤ s.metrics.flushes + 1) ∧
    (s.metrics.mispredicts ≤ t.metrics.mispredicts ∧
      t.metrics.mispredicts - s.metrics.mispredicts ≤ t.metrics.flushes - s.metrics.flushes) ∧
    (s.metrics.condBranches ≤ t.metrics.condBranches ∧
      t.metrics.condBranches ≤ s.metrics.condBranches + s.idex.lanes.length) ∧
    (s.metrics.dirCorrect ≤ t.metrics.dirCorrect ∧
      t.metrics.dirCorrect - s.metrics.dirCorrect ≤ t.metrics.condBranches - s.metrics.condBranches)

/-- What may change the architectural state in a step of the block: a register, only a micro-op in MEMWB that writes it or
the host that an ECALL there calls, if its answer writes it; a byte of memory, only a store in EXMEM, in range, whose
bytes `[result, result + memBytes)` it is one of, or that host, if its answer writes it; the output stream, only that
host, by appending its bytes. Nothing in IFID or IDEX touches any of them (R21, R22, R41, R94, R97, R120, R251). That the
host's answer lists its writes, and those outside the region have no effect, is log entries 14 and 16. -/
def Obligations.WhoChangesTheArchitecturalState : Prop :=
  ∀ s t : State, s.engine = .pipeline → step s = .next t →
    (∀ r : Reg, t.reg r ≠ s.reg r →
      (∃ u, some u ∈ s.memwb.lanes ∧ u.fault = none ∧ u.writes r) ∨
      (r ≠ 0 ∧ ∃ h v, HostActs s h ∧ (r, v) ∈ h.hostReply.regWrites)) ∧
    (∀ a : Nat, t.mem.byte a ≠ s.mem.byte a →
      (∃ u d, some u ∈ s.exmem.lanes ∧ u.fault = none ∧ u.dec = some d ∧ d.isStore = true ∧
        InRegion s u.result d.memBytes ∧ u.result.toNat ≤ a ∧ a < u.result.toNat + d.memBytes) ∨
      (s.plat.memBase ≤ a ∧ a < s.plat.memBase + s.plat.memSize ∧
        ∃ h v, HostActs s h ∧ (a, v) ∈ h.hostReply.memWrites)) ∧
    (t.out ≠ s.out → ∃ h, HostActs s h ∧ t.out = s.out ++ h.hostReply.appended)

/-- At most one flush happens in a cycle, and a cycle with a flush has no stall and no split: `Hold` and `Bubble` never
arise in the same cycle (R117). It holds of every state, reachable or not, and of every Decoder, ComputeUnit and MemoryBus
(R10). -/
def Obligations.AtMostOneFlushPerCycle : Prop :=
  ∀ (units : Units) (s : State),
    let t := s.cycle units
    t.metrics.flushes ≤ s.metrics.flushes + 1 ∧
    (t.metrics.flushes ≠ s.metrics.flushes →
      t.metrics.stalls = s.metrics.stalls ∧ t.metrics.splits = s.metrics.splits ∧ t.fetchMode ≠ .hold) ∧
    (t.metrics.mispredicts ≠ s.metrics.mispredicts → t.metrics.flushes ≠ s.metrics.flushes)

/-! ## Writeback (R92 to R99) -/

/-- Writeback commits the lanes in order: of two lanes that write one register the younger value remains; x0 is never
written; `isaRetired` counts every micro-op and `committed` all but the second of a fused pair (R94, R95). -/
def Obligations.WritebackCommitsInLaneOrder : Prop :=
  ∀ (s : State) (l : Lanes), PlainLanes l →
    (∀ pre u post r, l = pre ++ some u :: post → u.writes r → (∀ q, some q ∈ post → ¬ q.writes r) →
      (retireLanes l s).reg r = u.result) ∧
    (∀ r : Reg, (∀ q, some q ∈ l → ¬ q.writes r) → (retireLanes l s).reg r = s.reg r) ∧
    (retireLanes l s).metrics =
      { s.metrics with
        isaRetired := s.metrics.isaRetired + l.countP Option.isSome
        committed := s.metrics.committed + l.countP fun slot => slot.any fun u => !u.fusedPrev } ∧
    SameBytes s (retireLanes l s) ∧ (retireLanes l s).out = s.out ∧ (retireLanes l s).status = s.status ∧
    (retireLanes l s).pc = s.pc ∧ (retireLanes l s).ifid = s.ifid ∧ (retireLanes l s).idex = s.idex ∧
    (retireLanes l s).exmem = s.exmem

/-- A micro-op with a pending error ends the cycle at Writeback: the older lanes have committed, it commits nothing, no
later lane and no later stage runs, and the cycle counts (R71, R93, R122). -/
def Obligations.WritebackRaisesThePendingError : Prop :=
  ∀ (s : State) (pre rest : Lanes) (u : MicroOp) (e : RunError),
    s.memwb.lanes = pre ++ some u :: rest → PlainLanes pre → u.fault = some e →
    s.cycle = (retireLanes pre s.beginCycle).raise e ∧
    s.cycle.metrics.cycles = s.metrics.cycles + 1 ∧ SameBytes s s.cycle ∧ s.cycle.pc = s.pc ∧
    s.cycle.idex = s.idex ∧ s.cycle.exmem = s.exmem ∧ s.cycle.memwb = s.memwb

/-- EBREAK, ECALL and FENCE.I at Writeback, after the older lanes `pre` have committed: the halt, the host's verdict, and
the serialising flush, after which no later lane is processed (R96, R97, R98). -/
def Obligations.SystemActionsAtWriteback : Prop :=
  ∀ (s : State) (pre rest : Lanes) (u : MicroOp) (d : Decoded),
    PlainLanes pre → u.fault = none → u.dec = some d → d.regWrite = false →
    let p := retireLanes pre s
    let t := retireLanes (pre ++ some u :: rest) s
    let counted : Metrics :=
      { p.metrics with
        isaRetired := p.metrics.isaRetired + 1
        committed := if u.fusedPrev then p.metrics.committed else p.metrics.committed + 1 }
    let flushed (q : State) : State :=
      { q with
        exmem := ⟨bubbles q.exmem.lanes.length, q.exmem.isStalled⟩
        idex := ⟨bubbles q.idex.lanes.length, q.idex.isStalled⟩
        ifid := ⟨bubbles q.ifid.lanes.length, q.ifid.isStalled⟩
        pc := u.pc + BitVec.ofNat 64 u.len.bytes
        metrics := { counted with flushes := counted.flushes + 1 } }
    (d.op = .ebreak → t = { p with status := .halted .ebreak, metrics := counted }) ∧
    (d.op = .fenceI → t = flushed p) ∧
    (d.op = .ecall →
      match p.hostReply.verdict with
      | .continue => t = flushed (p.applyReply p.hostReply)
      | .exit => t = { p.applyReply p.hostReply with status := .halted .exit, metrics := counted }
      | .fault addr => t = { p with status := .error (.memoryFault u.pc addr), metrics := counted }
      | .refuse => t = { p with status := .refused (.hostService u.pc), metrics := counted })

/-! ## Memory (R89 to R91) -/

/-- A lane of the Memory stage that is no store in range: a load puts its data, extended, in `result`; an access out of
range makes the pending error and stops every younger lane; anything else, whatever its record, is copied (R89, R90).
MEMWB takes the lanes so made of EXMEM, and EXMEM stays. -/
def Obligations.MemoryStageLanes : Prop :=
  (∀ s : State,
    s.memoryStage.memwb = ⟨(memoryLanes s.exmem.lanes s).1, s.memwb.isStalled⟩ ∧ s.memoryStage.exmem = s.exmem) ∧
  ∀ (s : State) (rest : Lanes),
    memoryLanes (none :: rest) s = (none :: (memoryLanes rest s).1, (memoryLanes rest s).2) ∧
    (∀ u : MicroOp, u.fault ≠ none ∨ u.dec = none →
      memoryLanes (some u :: rest) s = (some u :: (memoryLanes rest s).1, (memoryLanes rest s).2)) ∧
    ∀ (u : MicroOp) (d : Decoded), u.fault = none → u.dec = some d →
      (d.isLoad = true → d.memBytes ∈ [1, 2, 4, 8] → InRegion s u.result d.memBytes →
        ∃ v : Word,
          memoryLanes (some u :: rest) s =
            (some { u with result := v } :: (memoryLanes rest s).1, (memoryLanes rest s).2) ∧
          (d.memSigned = true →
            v.toInt = (littleEndianSum s.mem u.result.toNat d.memBytes : Int).bmod (2 ^ (8 * d.memBytes))) ∧
          (d.memSigned = false → v.toNat = littleEndianSum s.mem u.result.toNat d.memBytes)) ∧
      ((d.isLoad = true ∨ d.isStore = true) → ¬ InRegion s u.result d.memBytes →
        memoryLanes (some u :: rest) s =
          (some { u with fault := some (.memoryFault u.pc u.result) } :: bubbles rest.length, s)) ∧
      (d.isLoad = false → d.isStore = false →
        memoryLanes (some u :: rest) s = (some u :: (memoryLanes rest s).1, (memoryLanes rest s).2))

/-- A store in range writes its bytes at once; if it writes a byte of a younger micro-op in EXMEM, IDEX or IFID, every
younger micro-op is discarded and Fetch goes on after the store, and otherwise there is no flush (R89, R91). -/
def Obligations.StoreSnoopFlush : Prop :=
  ∀ (s : State) (rest : Lanes) (u : MicroOp) (d : Decoded),
    u.fault = none → u.dec = some d → d.isStore = true → d.isLoad = false → d.memBytes ∈ [1, 2, 4, 8] →
    InRegion s u.result d.memBytes →
    let w := s.memWrite u.result d.memBytes u.store
    let hit := ∃ v k, (some v ∈ rest ∨ some v ∈ s.idex.lanes ∨ some v ∈ s.ifid.lanes) ∧
      u.result.toNat ≤ k ∧ k < u.result.toNat + d.memBytes ∧ v.pc.toNat ≤ k ∧ k < v.pc.toNat + v.len.bytes
    (hit → memoryLanes (some u :: rest) s =
      (some u :: bubbles rest.length,
        { w with
          idex := ⟨bubbles s.idex.lanes.length, s.idex.isStalled⟩
          ifid := ⟨bubbles s.ifid.lanes.length, s.ifid.isStalled⟩
          pc := u.pc + BitVec.ofNat 64 u.len.bytes
          metrics := { s.metrics with flushes := s.metrics.flushes + 1 } })) ∧
    (¬ hit → memoryLanes (some u :: rest) s = (some u :: (memoryLanes rest w).1, (memoryLanes rest w).2))

/-! ## Decode (R82 to R84, R100 to R111) -/

/-- The split point of R103, with the fused-pair marks of R110: exactly the lanes before the first one that meets a split
condition are planned, lane 0 always is, and an operand with a permitted youngest producer in the bundle is that lane. -/
def Obligations.SplitPointIsTheFirstObstacle : Prop :=
  ∀ (c : Config) (ops : List MicroOp) (n : Nat),
    let plan := planLanes c [] false (ops.map some ++ bubbles n)
    plan.length ≤ ops.length ∧
    (∀ k < plan.length, ¬ SplitAt c ops k) ∧
    (plan.length < ops.length → SplitAt c ops plan.length) ∧
    (ops ≠ [] → 1 ≤ plan.length) ∧
    ∀ (k : Nat) (p : Planned) (u : MicroOp), plan[k]? = some p → ops[k]? = some u →
      p.op = { u with fusedPrev := fusedAt c ops k } ∧
      ComesFrom ops k u.readsA p.laneA ∧ ComesFrom ops k u.readsB p.laneB

/-- Forwarding takes the youngest producer in EXMEM, then the youngest in MEMWB, then the register file; a load in EXMEM
makes the lane wait (R100, R105). -/
def Obligations.ForwardingIsYoungestFirst : Prop :=
  (∀ (q : MicroOp) (r : Reg), q.produces r = true ↔
    q.fault = none ∧ r ≠ 0 ∧ ∃ d, q.dec = some d ∧ d.regWrite = true ∧ d.rd = r) ∧
  ∀ (s : State) (r : Reg),
    (∀ pre q post, s.exmem.lanes = pre ++ some q :: post → q.produces r = true →
      (∀ p, some p ∈ post → p.produces r = false) →
      s.forward r = if q.flag Decoded.isLoad = true then none else some (.val q.result)) ∧
    ((∀ p, some p ∈ s.exmem.lanes → p.produces r = false) →
      (∀ pre q post, s.memwb.lanes = pre ++ some q :: post → q.produces r = true →
        (∀ p, some p ∈ post → p.produces r = false) → s.forward r = some (.val q.result)) ∧
      ((∀ p, some p ∈ s.memwb.lanes → p.produces r = false) → s.forward r = some (.val (s.reg r))))

/-- The load-use stall: when a planned lane must wait, IDEX gets bubbles, the stall is counted, and IFID and pc stay
through the Fetch of the same cycle, which re-presents the bundle; and only then (R74, R83, R107). -/
def Obligations.LoadUseStallHoldsTheBundle : Prop :=
  ∀ s : State,
    let plan := planLanes s.cfg [] false s.ifid.lanes
    let waits := ∃ p ∈ plan, MustWait s p.op.readsA p.laneA ∨ MustWait s p.op.readsB p.laneB
    (waits →
      s.decodeStage.fetchStage =
        { s with
          idex := ⟨bubbles s.idex.lanes.length, s.idex.isStalled⟩
          ifid := ⟨s.ifid.lanes, true⟩
          fetchMode := .hold
          metrics := { s.metrics with stalls := s.metrics.stalls + 1 } }) ∧
    (¬ waits → s.decodeStage.metrics.stalls = s.metrics.stalls ∧ s.decodeStage.fetchMode = s.fetchMode)

/-- Issue: the planned lanes enter IDEX with their operands, the lanes from the split point on are fetched again from the
first of them, and a split is counted exactly when some are left (R82, R84). -/
def Obligations.IssueSendsTheRestBack : Prop :=
  ∀ (s : State) (ops : List MicroOp) (n : Nat),
    s.ifid.lanes = ops.map some ++ bubbles n → ops.length + n = s.cfg.width →
    let plan := planLanes s.cfg [] false s.ifid.lanes
    (∀ p ∈ plan, ¬ MustWait s p.op.readsA p.laneA ∧ ¬ MustWait s p.op.readsB p.laneB) →
    s.decodeStage.idex.lanes.length = s.cfg.width ∧
    (∀ (k : Nat) (p : Planned), plan[k]? = some p → ∃ a b, s.resolve p.op.readsA p.laneA = some a ∧
      s.resolve p.op.readsB p.laneB = some b ∧
      s.decodeStage.idex.lanes[k]? = some (some { p.op with srcA := a, srcB := b })) ∧
    (∀ k slot, plan.length ≤ k → s.decodeStage.idex.lanes[k]? = some slot → slot = none) ∧
    (∀ u, ops[plan.length]? = some u →
      s.decodeStage.pc = u.pc ∧ s.decodeStage.metrics = { s.metrics with splits := s.metrics.splits + 1 }) ∧
    (ops.length ≤ plan.length → s.decodeStage.pc = s.pc ∧ s.decodeStage.metrics = s.metrics) ∧
    s.decodeStage.ifid = s.ifid ∧ s.decodeStage.fetchMode = s.fetchMode

/-- The fusible pairs are the four of R110's table, by the instructions the records come from; the compressed forms match
as their expansions. Neither micro-op may have a pending error. -/
def Obligations.FusiblePairsAreTheTable : Prop :=
  (∀ i j : Instr, i.wellFormed = true → j.wellFormed = true →
    (fusiblePattern (recordOf i) (recordOf j) = true ↔
      ∃ r : Reg, r ≠ 0 ∧
        ((∃ u x, expand i = .lui r u ∧ (expand j = .addi r r x ∨ expand j = .addiw r r x)) ∨
          (∃ u x, expand i = .auipc r u ∧ expand j = .addi r r x) ∨
          (∃ src, expand i = .slli r src 32 ∧ expand j = .srli r r 32)))) ∧
  (∀ p q : MicroOp, fusiblePair p q = true ↔
    p.fault = none ∧ q.fault = none ∧ ∃ a b, p.dec = some a ∧ q.dec = some b ∧ fusiblePattern a b = true)

/-! ## Resolution and flush (R112 to R116) -/

/-- The flush of a mismatch: the younger lanes of EXMEM and all of IDEX and IFID become bubbles, pc becomes the actual next
pc, `flushes` and `mispredicts` count it, and with `ebr` false the next Fetch is suppressed. Older work is not touched
(R112, R113, R114). -/
def Obligations.MismatchFlush : Prop :=
  ∀ (s : State) (pre rest : Lanes) (u : MicroOp),
    s.exmem.lanes = pre ++ some u :: rest →
    (∀ q, some q ∈ pre → q.fault ≠ none ∨ q.actualPc = q.followedPc) →
    u.fault = none →
    (if u.taken then u.target else u.pc + BitVec.ofNat 64 u.len.bytes) ≠
      (if u.predTaken then u.predTarget else u.pc + BitVec.ofNat 64 u.len.bytes) →
    let t := s.controlHazard
    t.exmem.lanes = pre ++ some u :: bubbles rest.length ∧
    t.idex.lanes = bubbles s.idex.lanes.length ∧ t.ifid.lanes = bubbles s.ifid.lanes.length ∧
    t.pc = (if u.taken then u.target else u.pc + BitVec.ofNat 64 u.len.bytes) ∧
    t.metrics.flushes = s.metrics.flushes + 1 ∧ t.metrics.mispredicts = s.metrics.mispredicts + 1 ∧
    t.fetchMode = (if s.cfg.ebr then s.fetchMode else .bubble) ∧
    t.memwb = s.memwb ∧ t.regs = s.regs ∧ t.mem = s.mem ∧ t.out = s.out ∧ t.status = s.status

/-- What the micro-ops on the correct path do as they resolve (R113 items 1 and 2, R115, R128, R132): in lane order each
conditional branch trains the predictor, each call and return updates the return-address stack, and the branches and the
rightly predicted ones are counted. With no mismatch that is all: pc, the four latches and every other field stay. With a
mismatch it is so of the lanes up to and including the mismatched one, and the younger lanes do none of it. -/
def Obligations.CorrectPathResolution : Prop :=
  ∀ s : State,
    ((∀ q, some q ∈ s.exmem.lanes → q.fault ≠ none ∨ q.actualPc = q.followedPc) →
      let p := resolvedBy s.exmem.lanes s
      s.controlHazard =
        { s with
          counters := p.counters
          ghr := p.ghr
          rasStack := p.rasStack
          metrics :=
            { s.metrics with
              condBranches := s.metrics.condBranches + branchesIn s.exmem.lanes
              dirCorrect := s.metrics.dirCorrect + rightBranchesIn s.exmem.lanes } }) ∧
    ∀ (pre rest : Lanes) (u : MicroOp), s.exmem.lanes = pre ++ some u :: rest →
      (∀ q, some q ∈ pre → q.fault ≠ none ∨ q.actualPc = q.followedPc) →
      u.fault = none → u.actualPc ≠ u.followedPc →
      let p := resolvedBy (pre ++ [some u]) s
      let t := s.controlHazard
      t.counters = p.counters ∧ t.ghr = p.ghr ∧ t.rasStack = p.rasStack ∧
      t.metrics =
        { s.metrics with
          condBranches := s.metrics.condBranches + branchesIn (pre ++ [some u])
          dirCorrect := s.metrics.dirCorrect + rightBranchesIn (pre ++ [some u])
          flushes := s.metrics.flushes + 1
          mispredicts := s.metrics.mispredicts + 1 }

/-! ## Predictor and return-address stack (R124 to R133) -/

/-- `update(i, t)`: the counter at the recorded index moves by one and saturates, no other counter moves, the history
shifts for Gshare only, and Static (no index) does nothing (R127). -/
def Obligations.CountersSaturate : Prop :=
  ∀ (s : State) (i : Nat) (t : Bool), sparseWf s.cfg.initCounter s.counters →
    ((s.train (some i) t).counter i : Int) =
      (if t then min ((s.counter i : Int) + 1) (2 ^ s.cfg.counterBits - 1) else max ((s.counter i : Int) - 1) 0) ∧
    (∀ j : Nat, j ≠ i → (s.train (some i) t).counter j = s.counter j) ∧
    (s.train (some i) t).ghr =
      (if s.cfg.predictor = .gshare
        then (s.ghr * 2 + if t then 1 else 0) % 2 ^ s.cfg.tableBits else s.ghr) ∧
    s.train none t = s

/-- `predict(pc)`: not taken with no index for Static, and for the others the upper half of the counter's range, at the
index `pc >> 1`, for Gshare exclusive-ored with the history (R125, R126). -/
def Obligations.PredictionReadsTheUpperHalf : Prop :=
  ∀ (s : State) (a : Word),
    (s.cfg.predictor = .static → s.predict a = (false, none)) ∧
    (s.cfg.predictor = .bimodal → ∀ i, i = (a >>> 1).toNat % 2 ^ s.cfg.tableBits →
      s.predict a = (decide (s.counter i ≥ 2 ^ (s.cfg.counterBits - 1)), some i)) ∧
    (s.cfg.predictor = .gshare → ∀ i, i = ((a >>> 1).toNat ^^^ s.ghr) % 2 ^ s.cfg.tableBits →
      s.predict a = (decide (s.counter i ≥ 2 ^ (s.cfg.counterBits - 1)), some i))

/-- Calls and returns by instruction, and the stack they make: a call pushes and drops the oldest entry beyond the depth,
a return pops, and nothing else touches the stack (R131, R132). -/
def Obligations.ReturnAddressStack : Prop :=
  (∀ i : Instr,
    ((recordOf i).isCall = true ↔ (∃ off, expand i = .jal 1 off) ∨ ∃ rs1 imm, expand i = .jalr 1 rs1 imm) ∧
    ((recordOf i).isReturn = true ↔ ∃ imm, expand i = .jalr 0 1 imm)) ∧
  (∀ (s : State) (u : MicroOp) (d : Decoded), u.dec = some d → s.rasStack.length ≤ s.cfg.rasDepth →
    let t := s.updateRas u
    (d.isCall = true → ∃ dropped, t.rasStack ++ dropped = (u.pc + BitVec.ofNat 64 u.len.bytes) :: s.rasStack ∧
      t.rasStack.length = min (s.rasStack.length + 1) s.cfg.rasDepth) ∧
    (d.isReturn = true → t.rasStack = s.rasStack.drop 1) ∧
    (d.isCall = false → d.isReturn = false → t.rasStack = s.rasStack))

/-! ## Fetch (R74 to R81, R129) -/

/-- FetchStage by its mode: in `Run` IFID gets a new bundle, its other lanes bubbles, not stalled, and pc the address
where Fetch goes on; in `Bubble` IFID gets bubbles and pc stays; in `Hold` IFID and pc stay, and IFID is stalled (R74). The
bundle starts at pc, has at most W micro-ops and FB bytes, each micro-op holds the instruction at its address and goes on
where the one before it was followed, only the last can be a fault slot or redirect Fetch, and pc is left where Fetch goes
on. It ends only at W lanes, at a fault slot, at a redirect, or before an instruction that would pass the end of the window,
and that end comes before the fault of a second parcel (R75, R76, R77, R78, R79, R80, R81). -/
def Obligations.FetchBuildsAContiguousBundle : Prop :=
  ∀ s : State,
    let window := Config.fetchBytes s.cfg
    let f := fetchLanes s window s.cfg.width s.pc 0
    let us := f.1
    let used := ((us.filter fun u => u.fault ≠ some (.fetchFault u.pc)).map fun u => u.len.bytes).sum
    (s.fetchMode = .run →
      s.fetchStage = { s with ifid := ⟨us.map some ++ bubbles (s.cfg.width - us.length), false⟩, pc := f.2 }) ∧
    (s.fetchMode = .bubble →
      s.fetchStage = { s with ifid := ⟨bubbles s.ifid.lanes.length, s.ifid.isStalled⟩ }) ∧
    (s.fetchMode = .hold → s.fetchStage = { s with ifid := ⟨s.ifid.lanes, true⟩ }) ∧
    (1 ≤ s.cfg.width → 4 ≤ window → us ≠ []) ∧ us.length ≤ s.cfg.width ∧ used ≤ window ∧
    (us.length = s.cfg.width ∨
      (∃ u, us.getLast? = some u ∧ (u.fault = some (.fetchFault u.pc) ∨ u.predTaken = true)) ∨
      (InRegion s f.2 2 ∧ window < used + if (s.mem.byte f.2.toNat).extractLsb' 0 2 = 3 then 4 else 2)) ∧
    (∀ u ∈ us, u.fault = some (.fetchFault u.pc) → InRegion s u.pc 2 → used + 4 ≤ window) ∧
    (∀ u, us[0]? = some u → u.pc = s.pc) ∧
    (∀ k u v, us[k]? = some u → us[k + 1]? = some v →
      v.pc = u.pc + BitVec.ofNat 64 u.len.bytes ∧ u.predTaken = false ∧ u.fault ≠ some (.fetchFault u.pc)) ∧
    (∀ u ∈ us, u.srcA = .val 0 ∧ u.srcB = .val 0 ∧ u.fusedPrev = false ∧ u.result = 0 ∧ u.store = 0 ∧
      u.taken = false ∧ u.target = 0) ∧
    (∀ u ∈ us, (u.fault = some (.fetchFault u.pc) ∧ u.dec = none ∧ u.len = .two ∧ u.word = 0 ∧
        u.predTaken = false ∧ s.fetchWord u.pc = none) ∨
      (s.fetchWord u.pc = some (u.len, u.word) ∧
        ((∃ i, decode u.word u.len = .ok i ∧ u.dec = some (recordOf i) ∧ u.fault = none) ∨
          (∃ e, decode u.word u.len = .error e ∧ u.dec = none ∧
            u.fault = some (.illegalInstruction u.pc u.word))))) ∧
    (∀ u, us.getLast? = some u →
      f.2 = if u.fault = some (.fetchFault u.pc) then u.pc
        else if u.predTaken then u.predTarget else u.pc + BitVec.ofNat 64 u.len.bytes) ∧
    (s.cfg.ebr = false → ∀ u ∈ us, u.predTaken = false)

/-- The prediction fields Fetch fills, by instruction: a conditional branch records the predictor's direction, and with
`ebr` Fetch follows a branch predicted taken, every JAL, and (with `ras` and an entry) a return to the top of the stack;
no other micro-op is predicted taken (R129). -/
def Obligations.FetchFollowsItsPredictions : Prop :=
  ∀ (s : State) (a : Word) (len : Len) (word : InstWord) (i : Instr), decode word len = .ok i →
    let u := s.predictOp (newMicroOp a len word)
    let d := recordOf i
    (d.isBranch = true →
      (u.dirPred, u.predIdx) = s.predict a ∧ (u.predTaken = true ↔ s.cfg.ebr = true ∧ (s.predict a).1 = true) ∧
      (u.predTaken = true → u.predTarget = a + d.imm)) ∧
    (d.isBranch = false → u.dirPred = false ∧ u.predIdx = none) ∧
    (d.op = .jal → (u.predTaken = true ↔ s.cfg.ebr = true) ∧ (u.predTaken = true → u.predTarget = a + d.imm)) ∧
    (d.isReturn = true →
      (u.predTaken = true ↔ s.cfg.ebr = true ∧ s.cfg.ras = true ∧ s.rasStack ≠ []) ∧
      (u.predTaken = true → s.rasStack.head? = some u.predTarget)) ∧
    (d.isBranch = false → d.op ≠ .jal → d.isReturn = false → u.predTaken = false) ∧
    (u.predTaken = false → u.predTarget = 0)

/-! ## Runs -/

/-- An entry address outside the memory region is no configuration error: the run ends with FetchFault at the entry in
cycle 5, with the registers, memory and output of the launch, whatever the configuration (R261, R262). -/
def Obligations.EntryOutsideMemoryFaultsInCycleFive : Prop :=
  ∀ (c : Config) (p : Platform) (given : List (Reg × Word)) (image : List Host.Cell) (s : State),
    launch .pipeline c p given image = .ok s → 5 ≤ c.budget → ¬ InRegion s p.entry 2 →
    s.pipelineRun.status = .error (.fetchFault p.entry) ∧ s.pipelineRun.metrics.cycles = 5 ∧
    s.pipelineRun.metrics.isaRetired = 0 ∧ s.pipelineRun.regs = s.regs ∧ s.pipelineRun.mem = s.mem ∧
    s.pipelineRun.out = s.out

/-- One instruction through Execute, Memory and Writeback, in any lane: when each operand source, a value or a lane of the
same bundle, gives the register's value, it has the sequential reference's effect: the same registers, memory, output and
status, and while the run goes on the next pc the ControlHazardUnit computes is the reference's (R14, R86, R87, R89, R94,
R109, R264). And Execute gives every lane of a bundle just that: a lane reads a value, or the result of the older lane it
names, and gets the ComputeUnit's outputs; bubbles and micro-ops with a pending error pass unchanged (R85, R86, R87).
EXMEM takes the lanes so made of IDEX, and nothing else changes. -/
def Obligations.OneInstructionThroughTheStages : Prop :=
  (∀ (s : State) (len : Len) (word : InstWord) (i : Instr) (t : State) (done : Lanes) (srcA srcB : Source),
    s.status = .running → s.fetchWord s.pc = some (len, word) → decode word len = .ok i →
    OperandFrom done srcA (s.operandA (recordOf i)) → OperandFrom done srcB (s.operandB (recordOf i)) →
    s.referenceStep = .next t →
    ∃ e, executeLanes done [some { newMicroOp s.pc len word with srcA := srcA, srcB := srcB }] = done ++ [some e] ∧
      SameArchitecture t (retireLanes (memoryLanes [some e] s).1 (memoryLanes [some e] s).2) ∧
      (t.status = .running → e.actualPc = t.pc)) ∧
  (∀ s : State, s.executeStage = { s with exmem := ⟨executeLanes [] s.idex.lanes, s.exmem.isStalled⟩ }) ∧
  ∀ l : Lanes,
    let out := executeLanes [] l
    out.length = l.length ∧
    ∀ k : Nat,
      (l[k]? = some none → out[k]? = some none) ∧
      ∀ u : MicroOp, l[k]? = some (some u) →
        (u.fault ≠ none → out[k]? = some (some u)) ∧
        ∀ (d : Decoded) (a b : Word), u.fault = none → u.dec = some d →
          OperandFrom (out.take k) u.srcA a → OperandFrom (out.take k) u.srcB b →
          let o := compute d.op u.pc u.len d.imm a b
          out[k]? = some (some { u with result := o.result, store := o.store, taken := o.taken, target := o.target })

/-- The central property (R265): for every valid configuration, every width and every launch, the block ends as the
sequential reference does. A run that ends otherwise than by its budget ends with the reference's status, registers,
memory and output, the reference having a step more than the instructions retired; a run that ends by its budget has
the registers and output of the reference after as many steps as it retired, and its memory with the stores of the
fault-free micro-ops in MEMWB applied in lane order. The address a FetchFault records for a second parcel out of range is, in
the reference, the model's reading (log entry 5). -/
def Obligations.TandemEquivalence : Prop :=
  ∀ (c : Config) (p : Platform) (given : List (Reg × Word)) (image : List Host.Cell) (s : State),
    launch .pipeline c p given image = .ok s →
    let t := s.pipelineRun
    let n := t.metrics.isaRetired
    (t.status ≠ .notHalted → SameArchitecture (State.referenceRun (n + 1) s) t) ∧
    (t.status = .notHalted →
      (State.referenceRun n s).status = .notHalted ∧
      t.regs = (State.referenceRun n s).regs ∧ t.out = (State.referenceRun n s).out ∧
      t.mem = t.memwb.lanes.foldl
        (fun m slot =>
          match slot with
          | none => m
          | some u =>
            if u.fault = none ∧ u.flag Decoded.isStore = true
            then m.writeLE u.result.toNat u.memBytes u.store.toNat else m)
        (State.referenceRun n s).mem)
end

