-- ==== Sys2Proof/Laws/Encoding.lean ====
section
/-!
SUPPORT. The fields of each encoding format read back from the word it builds (spec/30_encoding.md R58 and R63).
-/

namespace Sys2Proof

/-- A field above the low part of a concatenation. -/
theorem extractLsb'_append_high {m n : Nat} (x : BitVec m) (y : BitVec n) (s k : Nat) (h : n ≤ s) :
    (x ++ y).extractLsb' s k = x.extractLsb' (s - n) k := by
  ext i hi
  simp only [BitVec.getElem_extractLsb', BitVec.getLsbD_append]
  rw [if_neg (by omega : ¬ s + i < n), show s + i - n = s - n + i by omega]

/-- A field inside the low part of a concatenation. -/
theorem extractLsb'_append_inside {m n : Nat} (x : BitVec m) (y : BitVec n) (s k : Nat) (h : s + k ≤ n) :
    (x ++ y).extractLsb' s k = y.extractLsb' s k := by
  ext i hi
  simp only [BitVec.getElem_extractLsb', BitVec.getLsbD_append]
  rw [if_pos (by omega : s + i < n)]

/-- The whole of a value. -/
theorem extractLsb'_whole {n : Nat} (x : BitVec n) : x.extractLsb' 0 n = x := by
  ext i hi
  simp

/-- A field of a parcel is the same field of its zero extension. -/
theorem extractLsb'_setWidth {n m : Nat} (x : BitVec n) (s k : Nat) (h : s + k ≤ n) (hm : n ≤ m) :
    (x.setWidth m).extractLsb' s k = x.extractLsb' s k := by
  ext i hi
  simp only [BitVec.getElem_extractLsb', BitVec.getLsbD_setWidth]
  rw [decide_eq_true (by omega : s + i < m)]
  rfl

/-- A parcel is the low half of its zero extension. -/
theorem setWidth_parcel (h : Parcel) : (h.setWidth 32).setWidth 16 = h := by
  rw [BitVec.setWidth_setWidth_of_le _ (by decide), BitVec.setWidth_eq]


section encR
variable (f7 : BitVec 7) (rs2 : Reg) (rs1 : Reg) (f3 : BitVec 3) (rd : Reg) (op : BitVec 7)

@[simp] theorem opcodeOf_encR : opcodeOf (encR f7 rs2 rs1 f3 rd op) = op := by
  change BitVec.extractLsb' 0 7 (f7 ++ rs2 ++ rs1 ++ f3 ++ rd ++ op) = op
  rw [extractLsb'_append_inside _ _ _ _ (by decide),
    extractLsb'_whole]
@[simp] theorem rdOf_encR : rdOf (encR f7 rs2 rs1 f3 rd op) = rd := by
  change BitVec.extractLsb' 7 5 (f7 ++ rs2 ++ rs1 ++ f3 ++ rd ++ op) = rd
  rw [extractLsb'_append_high _ _ _ _ (by decide),
    extractLsb'_append_inside _ _ _ _ (by decide),
    extractLsb'_whole]
@[simp] theorem funct3Of_encR : funct3Of (encR f7 rs2 rs1 f3 rd op) = f3 := by
  change BitVec.extractLsb' 12 3 (f7 ++ rs2 ++ rs1 ++ f3 ++ rd ++ op) = f3
  rw [extractLsb'_append_high _ _ _ _ (by decide),
    extractLsb'_append_high _ _ _ _ (by decide),
    extractLsb'_append_inside _ _ _ _ (by decide),
    extractLsb'_whole]
@[simp] theorem rs1Of_encR : rs1Of (encR f7 rs2 rs1 f3 rd op) = rs1 := by
  change BitVec.extractLsb' 15 5 (f7 ++ rs2 ++ rs1 ++ f3 ++ rd ++ op) = rs1
  rw [extractLsb'_append_high _ _ _ _ (by decide),
    extractLsb'_append_high _ _ _ _ (by decide),
    extractLsb'_append_high _ _ _ _ (by decide),
    extractLsb'_append_inside _ _ _ _ (by decide),
    extractLsb'_whole]
@[simp] theorem rs2Of_encR : rs2Of (encR f7 rs2 rs1 f3 rd op) = rs2 := by
  change BitVec.extractLsb' 20 5 (f7 ++ rs2 ++ rs1 ++ f3 ++ rd ++ op) = rs2
  rw [extractLsb'_append_high _ _ _ _ (by decide),
    extractLsb'_append_high _ _ _ _ (by decide),
    extractLsb'_append_high _ _ _ _ (by decide),
    extractLsb'_append_high _ _ _ _ (by decide),
    extractLsb'_append_inside _ _ _ _ (by decide),
    extractLsb'_whole]
@[simp] theorem funct7Of_encR : funct7Of (encR f7 rs2 rs1 f3 rd op) = f7 := by
  change BitVec.extractLsb' 25 7 (f7 ++ rs2 ++ rs1 ++ f3 ++ rd ++ op) = f7
  rw [extractLsb'_append_high _ _ _ _ (by decide),
    extractLsb'_append_high _ _ _ _ (by decide),
    extractLsb'_append_high _ _ _ _ (by decide),
    extractLsb'_append_high _ _ _ _ (by decide),
    extractLsb'_append_high _ _ _ _ (by decide),
    extractLsb'_whole]
@[simp] theorem shamt5Of_encR : shamt5Of (encR f7 rs2 rs1 f3 rd op) = rs2 := by
  change BitVec.extractLsb' 20 5 (f7 ++ rs2 ++ rs1 ++ f3 ++ rd ++ op) = rs2
  rw [extractLsb'_append_high _ _ _ _ (by decide),
    extractLsb'_append_high _ _ _ _ (by decide),
    extractLsb'_append_high _ _ _ _ (by decide),
    extractLsb'_append_high _ _ _ _ (by decide),
    extractLsb'_append_inside _ _ _ _ (by decide),
    extractLsb'_whole]

end encR

section encI
variable (imm12 : BitVec 12) (rs1 : Reg) (f3 : BitVec 3) (rd : Reg) (op : BitVec 7)

@[simp] theorem opcodeOf_encI : opcodeOf (encI imm12 rs1 f3 rd op) = op := by
  change BitVec.extractLsb' 0 7 (imm12 ++ rs1 ++ f3 ++ rd ++ op) = op
  rw [extractLsb'_append_inside _ _ _ _ (by decide),
    extractLsb'_whole]
@[simp] theorem rdOf_encI : rdOf (encI imm12 rs1 f3 rd op) = rd := by
  change BitVec.extractLsb' 7 5 (imm12 ++ rs1 ++ f3 ++ rd ++ op) = rd
  rw [extractLsb'_append_high _ _ _ _ (by decide),
    extractLsb'_append_inside _ _ _ _ (by decide),
    extractLsb'_whole]
@[simp] theorem funct3Of_encI : funct3Of (encI imm12 rs1 f3 rd op) = f3 := by
  change BitVec.extractLsb' 12 3 (imm12 ++ rs1 ++ f3 ++ rd ++ op) = f3
  rw [extractLsb'_append_high _ _ _ _ (by decide),
    extractLsb'_append_high _ _ _ _ (by decide),
    extractLsb'_append_inside _ _ _ _ (by decide),
    extractLsb'_whole]
@[simp] theorem rs1Of_encI : rs1Of (encI imm12 rs1 f3 rd op) = rs1 := by
  change BitVec.extractLsb' 15 5 (imm12 ++ rs1 ++ f3 ++ rd ++ op) = rs1
  rw [extractLsb'_append_high _ _ _ _ (by decide),
    extractLsb'_append_high _ _ _ _ (by decide),
    extractLsb'_append_high _ _ _ _ (by decide),
    extractLsb'_append_inside _ _ _ _ (by decide),
    extractLsb'_whole]
@[simp] theorem immIOf_encI : immIOf (encI imm12 rs1 f3 rd op) = imm12 := by
  change BitVec.extractLsb' 20 12 (imm12 ++ rs1 ++ f3 ++ rd ++ op) = imm12
  rw [extractLsb'_append_high _ _ _ _ (by decide),
    extractLsb'_append_high _ _ _ _ (by decide),
    extractLsb'_append_high _ _ _ _ (by decide),
    extractLsb'_append_high _ _ _ _ (by decide),
    extractLsb'_whole]

end encI

section encShift64
variable (f6 : BitVec 6) (shamt : BitVec 6) (rs1 : Reg) (f3 : BitVec 3) (rd : Reg) (op : BitVec 7)

@[simp] theorem opcodeOf_encShift64 : opcodeOf (encShift64 f6 shamt rs1 f3 rd op) = op := by
  change BitVec.extractLsb' 0 7 (f6 ++ shamt ++ rs1 ++ f3 ++ rd ++ op) = op
  rw [extractLsb'_append_inside _ _ _ _ (by decide),
    extractLsb'_whole]
@[simp] theorem rdOf_encShift64 : rdOf (encShift64 f6 shamt rs1 f3 rd op) = rd := by
  change BitVec.extractLsb' 7 5 (f6 ++ shamt ++ rs1 ++ f3 ++ rd ++ op) = rd
  rw [extractLsb'_append_high _ _ _ _ (by decide),
    extractLsb'_append_inside _ _ _ _ (by decide),
    extractLsb'_whole]
@[simp] theorem funct3Of_encShift64 : funct3Of (encShift64 f6 shamt rs1 f3 rd op) = f3 := by
  change BitVec.extractLsb' 12 3 (f6 ++ shamt ++ rs1 ++ f3 ++ rd ++ op) = f3
  rw [extractLsb'_append_high _ _ _ _ (by decide),
    extractLsb'_append_high _ _ _ _ (by decide),
    extractLsb'_append_inside _ _ _ _ (by decide),
    extractLsb'_whole]
@[simp] theorem rs1Of_encShift64 : rs1Of (encShift64 f6 shamt rs1 f3 rd op) = rs1 := by
  change BitVec.extractLsb' 15 5 (f6 ++ shamt ++ rs1 ++ f3 ++ rd ++ op) = rs1
  rw [extractLsb'_append_high _ _ _ _ (by decide),
    extractLsb'_append_high _ _ _ _ (by decide),
    extractLsb'_append_high _ _ _ _ (by decide),
    extractLsb'_append_inside _ _ _ _ (by decide),
    extractLsb'_whole]
@[simp] theorem funct6Of_encShift64 : funct6Of (encShift64 f6 shamt rs1 f3 rd op) = f6 := by
  change BitVec.extractLsb' 26 6 (f6 ++ shamt ++ rs1 ++ f3 ++ rd ++ op) = f6
  rw [extractLsb'_append_high _ _ _ _ (by decide),
    extractLsb'_append_high _ _ _ _ (by decide),
    extractLsb'_append_high _ _ _ _ (by decide),
    extractLsb'_append_high _ _ _ _ (by decide),
    extractLsb'_append_high _ _ _ _ (by decide),
    extractLsb'_whole]
@[simp] theorem shamt6Of_encShift64 : shamt6Of (encShift64 f6 shamt rs1 f3 rd op) = shamt := by
  change BitVec.extractLsb' 20 6 (f6 ++ shamt ++ rs1 ++ f3 ++ rd ++ op) = shamt
  rw [extractLsb'_append_high _ _ _ _ (by decide),
    extractLsb'_append_high _ _ _ _ (by decide),
    extractLsb'_append_high _ _ _ _ (by decide),
    extractLsb'_append_high _ _ _ _ (by decide),
    extractLsb'_append_inside _ _ _ _ (by decide),
    extractLsb'_whole]

end encShift64

section encS
variable (imm12 : BitVec 12) (rs2 : Reg) (rs1 : Reg) (f3 : BitVec 3) (op : BitVec 7)

@[simp] theorem opcodeOf_encS : opcodeOf (encS imm12 rs2 rs1 f3 op) = op := by
  change BitVec.extractLsb' 0 7 (imm12.extractLsb' 5 7 ++ rs2 ++ rs1 ++ f3 ++ imm12.extractLsb' 0 5 ++ op) = op
  rw [extractLsb'_append_inside _ _ _ _ (by decide),
    extractLsb'_whole]
@[simp] theorem funct3Of_encS : funct3Of (encS imm12 rs2 rs1 f3 op) = f3 := by
  change BitVec.extractLsb' 12 3 (imm12.extractLsb' 5 7 ++ rs2 ++ rs1 ++ f3 ++ imm12.extractLsb' 0 5 ++ op) = f3
  rw [extractLsb'_append_high _ _ _ _ (by decide),
    extractLsb'_append_high _ _ _ _ (by decide),
    extractLsb'_append_inside _ _ _ _ (by decide),
    extractLsb'_whole]
@[simp] theorem rs1Of_encS : rs1Of (encS imm12 rs2 rs1 f3 op) = rs1 := by
  change BitVec.extractLsb' 15 5 (imm12.extractLsb' 5 7 ++ rs2 ++ rs1 ++ f3 ++ imm12.extractLsb' 0 5 ++ op) = rs1
  rw [extractLsb'_append_high _ _ _ _ (by decide),
    extractLsb'_append_high _ _ _ _ (by decide),
    extractLsb'_append_high _ _ _ _ (by decide),
    extractLsb'_append_inside _ _ _ _ (by decide),
    extractLsb'_whole]
@[simp] theorem rs2Of_encS : rs2Of (encS imm12 rs2 rs1 f3 op) = rs2 := by
  change BitVec.extractLsb' 20 5 (imm12.extractLsb' 5 7 ++ rs2 ++ rs1 ++ f3 ++ imm12.extractLsb' 0 5 ++ op) = rs2
  rw [extractLsb'_append_high _ _ _ _ (by decide),
    extractLsb'_append_high _ _ _ _ (by decide),
    extractLsb'_append_high _ _ _ _ (by decide),
    extractLsb'_append_high _ _ _ _ (by decide),
    extractLsb'_append_inside _ _ _ _ (by decide),
    extractLsb'_whole]

end encS

section encB
variable (imm13 : BitVec 13) (rs2 : Reg) (rs1 : Reg) (f3 : BitVec 3) (op : BitVec 7)

@[simp] theorem opcodeOf_encB : opcodeOf (encB imm13 rs2 rs1 f3 op) = op := by
  change BitVec.extractLsb' 0 7 (imm13.extractLsb' 12 1 ++ imm13.extractLsb' 5 6 ++ rs2 ++ rs1 ++ f3 ++ imm13.extractLsb' 1 4 ++ imm13.extractLsb' 11 1 ++ op) = op
  rw [extractLsb'_append_inside _ _ _ _ (by decide),
    extractLsb'_whole]
@[simp] theorem funct3Of_encB : funct3Of (encB imm13 rs2 rs1 f3 op) = f3 := by
  change BitVec.extractLsb' 12 3 (imm13.extractLsb' 12 1 ++ imm13.extractLsb' 5 6 ++ rs2 ++ rs1 ++ f3 ++ imm13.extractLsb' 1 4 ++ imm13.extractLsb' 11 1 ++ op) = f3
  rw [extractLsb'_append_high _ _ _ _ (by decide),
    extractLsb'_append_high _ _ _ _ (by decide),
    extractLsb'_append_high _ _ _ _ (by decide),
    extractLsb'_append_inside _ _ _ _ (by decide),
    extractLsb'_whole]
@[simp] theorem rs1Of_encB : rs1Of (encB imm13 rs2 rs1 f3 op) = rs1 := by
  change BitVec.extractLsb' 15 5 (imm13.extractLsb' 12 1 ++ imm13.extractLsb' 5 6 ++ rs2 ++ rs1 ++ f3 ++ imm13.extractLsb' 1 4 ++ imm13.extractLsb' 11 1 ++ op) = rs1
  rw [extractLsb'_append_high _ _ _ _ (by decide),
    extractLsb'_append_high _ _ _ _ (by decide),
    extractLsb'_append_high _ _ _ _ (by decide),
    extractLsb'_append_high _ _ _ _ (by decide),
    extractLsb'_append_inside _ _ _ _ (by decide),
    extractLsb'_whole]
@[simp] theorem rs2Of_encB : rs2Of (encB imm13 rs2 rs1 f3 op) = rs2 := by
  change BitVec.extractLsb' 20 5 (imm13.extractLsb' 12 1 ++ imm13.extractLsb' 5 6 ++ rs2 ++ rs1 ++ f3 ++ imm13.extractLsb' 1 4 ++ imm13.extractLsb' 11 1 ++ op) = rs2
  rw [extractLsb'_append_high _ _ _ _ (by decide),
    extractLsb'_append_high _ _ _ _ (by decide),
    extractLsb'_append_high _ _ _ _ (by decide),
    extractLsb'_append_high _ _ _ _ (by decide),
    extractLsb'_append_high _ _ _ _ (by decide),
    extractLsb'_append_inside _ _ _ _ (by decide),
    extractLsb'_whole]

end encB

section encU
variable (imm20 : BitVec 20) (rd : Reg) (op : BitVec 7)

@[simp] theorem opcodeOf_encU : opcodeOf (encU imm20 rd op) = op := by
  change BitVec.extractLsb' 0 7 (imm20 ++ rd ++ op) = op
  rw [extractLsb'_append_inside _ _ _ _ (by decide),
    extractLsb'_whole]
@[simp] theorem rdOf_encU : rdOf (encU imm20 rd op) = rd := by
  change BitVec.extractLsb' 7 5 (imm20 ++ rd ++ op) = rd
  rw [extractLsb'_append_high _ _ _ _ (by decide),
    extractLsb'_append_inside _ _ _ _ (by decide),
    extractLsb'_whole]
@[simp] theorem immUOf_encU : immUOf (encU imm20 rd op) = imm20 := by
  change BitVec.extractLsb' 12 20 (imm20 ++ rd ++ op) = imm20
  rw [extractLsb'_append_high _ _ _ _ (by decide),
    extractLsb'_append_high _ _ _ _ (by decide),
    extractLsb'_whole]

end encU

section encJ
variable (imm21 : BitVec 21) (rd : Reg) (op : BitVec 7)

@[simp] theorem opcodeOf_encJ : opcodeOf (encJ imm21 rd op) = op := by
  change BitVec.extractLsb' 0 7 (imm21.extractLsb' 20 1 ++ imm21.extractLsb' 1 10 ++ imm21.extractLsb' 11 1 ++ imm21.extractLsb' 12 8 ++ rd ++ op) = op
  rw [extractLsb'_append_inside _ _ _ _ (by decide),
    extractLsb'_whole]
@[simp] theorem rdOf_encJ : rdOf (encJ imm21 rd op) = rd := by
  change BitVec.extractLsb' 7 5 (imm21.extractLsb' 20 1 ++ imm21.extractLsb' 1 10 ++ imm21.extractLsb' 11 1 ++ imm21.extractLsb' 12 8 ++ rd ++ op) = rd
  rw [extractLsb'_append_high _ _ _ _ (by decide),
    extractLsb'_append_inside _ _ _ _ (by decide),
    extractLsb'_whole]

end encJ

section encCr
variable (f4 : BitVec 4) (rd : Reg) (rs2 : Reg) (op2 : BitVec 2)

@[simp] theorem quadrantOf_encCr : quadrantOf (encCr f4 rd rs2 op2) = op2 := by
  change BitVec.extractLsb' 0 2 (f4 ++ rd ++ rs2 ++ op2) = op2
  rw [extractLsb'_append_inside _ _ _ _ (by decide),
    extractLsb'_whole]
@[simp] theorem cRdOf_encCr : cRdOf (encCr f4 rd rs2 op2) = rd := by
  change BitVec.extractLsb' 7 5 (f4 ++ rd ++ rs2 ++ op2) = rd
  rw [extractLsb'_append_high _ _ _ _ (by decide),
    extractLsb'_append_high _ _ _ _ (by decide),
    extractLsb'_append_inside _ _ _ _ (by decide),
    extractLsb'_whole]
@[simp] theorem cRs2Of_encCr : cRs2Of (encCr f4 rd rs2 op2) = rs2 := by
  change BitVec.extractLsb' 2 5 (f4 ++ rd ++ rs2 ++ op2) = rs2
  rw [extractLsb'_append_high _ _ _ _ (by decide),
    extractLsb'_append_inside _ _ _ _ (by decide),
    extractLsb'_whole]
@[simp] theorem cFunct3Of_encCr : cFunct3Of (encCr f4 rd rs2 op2) = f4.extractLsb' 1 3 := by
  change BitVec.extractLsb' 13 3 (f4 ++ rd ++ rs2 ++ op2) = f4.extractLsb' 1 3
  rw [extractLsb'_append_high _ _ _ _ (by decide),
    extractLsb'_append_high _ _ _ _ (by decide),
    extractLsb'_append_high _ _ _ _ (by decide)]

end encCr

section encCi
variable (f3 : BitVec 3) (hi1 : BitVec 1) (rd : Reg) (lo5 : BitVec 5) (op2 : BitVec 2)

@[simp] theorem quadrantOf_encCi : quadrantOf (encCi f3 hi1 rd lo5 op2) = op2 := by
  change BitVec.extractLsb' 0 2 (f3 ++ hi1 ++ rd ++ lo5 ++ op2) = op2
  rw [extractLsb'_append_inside _ _ _ _ (by decide),
    extractLsb'_whole]
@[simp] theorem cRdOf_encCi : cRdOf (encCi f3 hi1 rd lo5 op2) = rd := by
  change BitVec.extractLsb' 7 5 (f3 ++ hi1 ++ rd ++ lo5 ++ op2) = rd
  rw [extractLsb'_append_high _ _ _ _ (by decide),
    extractLsb'_append_high _ _ _ _ (by decide),
    extractLsb'_append_inside _ _ _ _ (by decide),
    extractLsb'_whole]
@[simp] theorem cFunct3Of_encCi : cFunct3Of (encCi f3 hi1 rd lo5 op2) = f3 := by
  change BitVec.extractLsb' 13 3 (f3 ++ hi1 ++ rd ++ lo5 ++ op2) = f3
  rw [extractLsb'_append_high _ _ _ _ (by decide),
    extractLsb'_append_high _ _ _ _ (by decide),
    extractLsb'_append_high _ _ _ _ (by decide),
    extractLsb'_append_high _ _ _ _ (by decide),
    extractLsb'_whole]
@[simp] theorem cRs2Of_encCi : cRs2Of (encCi f3 hi1 rd lo5 op2) = lo5 := by
  change BitVec.extractLsb' 2 5 (f3 ++ hi1 ++ rd ++ lo5 ++ op2) = lo5
  rw [extractLsb'_append_high _ _ _ _ (by decide),
    extractLsb'_append_inside _ _ _ _ (by decide),
    extractLsb'_whole]

end encCi

section encCiw
variable (f3 : BitVec 3) (imm8 : BitVec 8) (rdp : CReg) (op2 : BitVec 2)

@[simp] theorem quadrantOf_encCiw : quadrantOf (encCiw f3 imm8 rdp op2) = op2 := by
  change BitVec.extractLsb' 0 2 (f3 ++ imm8 ++ rdp ++ op2) = op2
  rw [extractLsb'_append_inside _ _ _ _ (by decide),
    extractLsb'_whole]
@[simp] theorem cRdpOf_encCiw : cRdpOf (encCiw f3 imm8 rdp op2) = rdp := by
  change BitVec.extractLsb' 2 3 (f3 ++ imm8 ++ rdp ++ op2) = rdp
  rw [extractLsb'_append_high _ _ _ _ (by decide),
    extractLsb'_append_inside _ _ _ _ (by decide),
    extractLsb'_whole]
@[simp] theorem cFunct3Of_encCiw : cFunct3Of (encCiw f3 imm8 rdp op2) = f3 := by
  change BitVec.extractLsb' 13 3 (f3 ++ imm8 ++ rdp ++ op2) = f3
  rw [extractLsb'_append_high _ _ _ _ (by decide),
    extractLsb'_append_high _ _ _ _ (by decide),
    extractLsb'_append_high _ _ _ _ (by decide),
    extractLsb'_whole]

end encCiw

section encCl
variable (f3 : BitVec 3) (hi3 : BitVec 3) (rs1p : CReg) (lo2 : BitVec 2) (rp : CReg) (op2 : BitVec 2)

@[simp] theorem quadrantOf_encCl : quadrantOf (encCl f3 hi3 rs1p lo2 rp op2) = op2 := by
  change BitVec.extractLsb' 0 2 (f3 ++ hi3 ++ rs1p ++ lo2 ++ rp ++ op2) = op2
  rw [extractLsb'_append_inside _ _ _ _ (by decide),
    extractLsb'_whole]
@[simp] theorem cRdpOf_encCl : cRdpOf (encCl f3 hi3 rs1p lo2 rp op2) = rp := by
  change BitVec.extractLsb' 2 3 (f3 ++ hi3 ++ rs1p ++ lo2 ++ rp ++ op2) = rp
  rw [extractLsb'_append_high _ _ _ _ (by decide),
    extractLsb'_append_inside _ _ _ _ (by decide),
    extractLsb'_whole]
@[simp] theorem cRs1pOf_encCl : cRs1pOf (encCl f3 hi3 rs1p lo2 rp op2) = rs1p := by
  change BitVec.extractLsb' 7 3 (f3 ++ hi3 ++ rs1p ++ lo2 ++ rp ++ op2) = rs1p
  rw [extractLsb'_append_high _ _ _ _ (by decide),
    extractLsb'_append_high _ _ _ _ (by decide),
    extractLsb'_append_high _ _ _ _ (by decide),
    extractLsb'_append_inside _ _ _ _ (by decide),
    extractLsb'_whole]
@[simp] theorem cFunct3Of_encCl : cFunct3Of (encCl f3 hi3 rs1p lo2 rp op2) = f3 := by
  change BitVec.extractLsb' 13 3 (f3 ++ hi3 ++ rs1p ++ lo2 ++ rp ++ op2) = f3
  rw [extractLsb'_append_high _ _ _ _ (by decide),
    extractLsb'_append_high _ _ _ _ (by decide),
    extractLsb'_append_high _ _ _ _ (by decide),
    extractLsb'_append_high _ _ _ _ (by decide),
    extractLsb'_append_high _ _ _ _ (by decide),
    extractLsb'_whole]

end encCl

section encCss
variable (f3 : BitVec 3) (imm6 : BitVec 6) (rs2 : Reg) (op2 : BitVec 2)

@[simp] theorem quadrantOf_encCss : quadrantOf (encCss f3 imm6 rs2 op2) = op2 := by
  change BitVec.extractLsb' 0 2 (f3 ++ imm6 ++ rs2 ++ op2) = op2
  rw [extractLsb'_append_inside _ _ _ _ (by decide),
    extractLsb'_whole]
@[simp] theorem cRs2Of_encCss : cRs2Of (encCss f3 imm6 rs2 op2) = rs2 := by
  change BitVec.extractLsb' 2 5 (f3 ++ imm6 ++ rs2 ++ op2) = rs2
  rw [extractLsb'_append_high _ _ _ _ (by decide),
    extractLsb'_append_inside _ _ _ _ (by decide),
    extractLsb'_whole]
@[simp] theorem cFunct3Of_encCss : cFunct3Of (encCss f3 imm6 rs2 op2) = f3 := by
  change BitVec.extractLsb' 13 3 (f3 ++ imm6 ++ rs2 ++ op2) = f3
  rw [extractLsb'_append_high _ _ _ _ (by decide),
    extractLsb'_append_high _ _ _ _ (by decide),
    extractLsb'_append_high _ _ _ _ (by decide),
    extractLsb'_whole]

end encCss

section encCa
variable (f6 : BitVec 6) (rdp : CReg) (f2 : BitVec 2) (rs2p : CReg) (op2 : BitVec 2)

@[simp] theorem quadrantOf_encCa : quadrantOf (encCa f6 rdp f2 rs2p op2) = op2 := by
  change BitVec.extractLsb' 0 2 (f6 ++ rdp ++ f2 ++ rs2p ++ op2) = op2
  rw [extractLsb'_append_inside _ _ _ _ (by decide),
    extractLsb'_whole]
@[simp] theorem cRdpOf_encCa : cRdpOf (encCa f6 rdp f2 rs2p op2) = rs2p := by
  change BitVec.extractLsb' 2 3 (f6 ++ rdp ++ f2 ++ rs2p ++ op2) = rs2p
  rw [extractLsb'_append_high _ _ _ _ (by decide),
    extractLsb'_append_inside _ _ _ _ (by decide),
    extractLsb'_whole]
@[simp] theorem cRs1pOf_encCa : cRs1pOf (encCa f6 rdp f2 rs2p op2) = rdp := by
  change BitVec.extractLsb' 7 3 (f6 ++ rdp ++ f2 ++ rs2p ++ op2) = rdp
  rw [extractLsb'_append_high _ _ _ _ (by decide),
    extractLsb'_append_high _ _ _ _ (by decide),
    extractLsb'_append_high _ _ _ _ (by decide),
    extractLsb'_append_inside _ _ _ _ (by decide),
    extractLsb'_whole]
@[simp] theorem cFunct3Of_encCa : cFunct3Of (encCa f6 rdp f2 rs2p op2) = f6.extractLsb' 3 3 := by
  change BitVec.extractLsb' 13 3 (f6 ++ rdp ++ f2 ++ rs2p ++ op2) = f6.extractLsb' 3 3
  rw [extractLsb'_append_high _ _ _ _ (by decide),
    extractLsb'_append_high _ _ _ _ (by decide),
    extractLsb'_append_high _ _ _ _ (by decide),
    extractLsb'_append_high _ _ _ _ (by decide)]

end encCa

section encCbAlu
variable (f3 : BitVec 3) (imm6 : BitVec 6) (f2 : BitVec 2) (rdp : CReg) (op2 : BitVec 2)

@[simp] theorem quadrantOf_encCbAlu : quadrantOf (encCbAlu f3 imm6 f2 rdp op2) = op2 := by
  change BitVec.extractLsb' 0 2 (f3 ++ imm6.extractLsb' 5 1 ++ f2 ++ rdp ++ imm6.extractLsb' 0 5 ++ op2) = op2
  rw [extractLsb'_append_inside _ _ _ _ (by decide),
    extractLsb'_whole]
@[simp] theorem cRs1pOf_encCbAlu : cRs1pOf (encCbAlu f3 imm6 f2 rdp op2) = rdp := by
  change BitVec.extractLsb' 7 3 (f3 ++ imm6.extractLsb' 5 1 ++ f2 ++ rdp ++ imm6.extractLsb' 0 5 ++ op2) = rdp
  rw [extractLsb'_append_high _ _ _ _ (by decide),
    extractLsb'_append_high _ _ _ _ (by decide),
    extractLsb'_append_inside _ _ _ _ (by decide),
    extractLsb'_whole]
@[simp] theorem cFunct3Of_encCbAlu : cFunct3Of (encCbAlu f3 imm6 f2 rdp op2) = f3 := by
  change BitVec.extractLsb' 13 3 (f3 ++ imm6.extractLsb' 5 1 ++ f2 ++ rdp ++ imm6.extractLsb' 0 5 ++ op2) = f3
  rw [extractLsb'_append_high _ _ _ _ (by decide),
    extractLsb'_append_high _ _ _ _ (by decide),
    extractLsb'_append_high _ _ _ _ (by decide),
    extractLsb'_append_high _ _ _ _ (by decide),
    extractLsb'_append_high _ _ _ _ (by decide),
    extractLsb'_whole]

end encCbAlu

section encCb
variable (f3 : BitVec 3) (off9 : BitVec 9) (rs1p : CReg) (op2 : BitVec 2)

@[simp] theorem quadrantOf_encCb : quadrantOf (encCb f3 off9 rs1p op2) = op2 := by
  change BitVec.extractLsb' 0 2 (f3 ++ off9.extractLsb' 8 1 ++ off9.extractLsb' 3 2 ++ rs1p ++ off9.extractLsb' 6 2 ++ off9.extractLsb' 1 2 ++ off9.extractLsb' 5 1 ++ op2) = op2
  rw [extractLsb'_append_inside _ _ _ _ (by decide),
    extractLsb'_whole]
@[simp] theorem cRs1pOf_encCb : cRs1pOf (encCb f3 off9 rs1p op2) = rs1p := by
  change BitVec.extractLsb' 7 3 (f3 ++ off9.extractLsb' 8 1 ++ off9.extractLsb' 3 2 ++ rs1p ++ off9.extractLsb' 6 2 ++ off9.extractLsb' 1 2 ++ off9.extractLsb' 5 1 ++ op2) = rs1p
  rw [extractLsb'_append_high _ _ _ _ (by decide),
    extractLsb'_append_high _ _ _ _ (by decide),
    extractLsb'_append_high _ _ _ _ (by decide),
    extractLsb'_append_high _ _ _ _ (by decide),
    extractLsb'_append_inside _ _ _ _ (by decide),
    extractLsb'_whole]
@[simp] theorem cFunct3Of_encCb : cFunct3Of (encCb f3 off9 rs1p op2) = f3 := by
  change BitVec.extractLsb' 13 3 (f3 ++ off9.extractLsb' 8 1 ++ off9.extractLsb' 3 2 ++ rs1p ++ off9.extractLsb' 6 2 ++ off9.extractLsb' 1 2 ++ off9.extractLsb' 5 1 ++ op2) = f3
  rw [extractLsb'_append_high _ _ _ _ (by decide),
    extractLsb'_append_high _ _ _ _ (by decide),
    extractLsb'_append_high _ _ _ _ (by decide),
    extractLsb'_append_high _ _ _ _ (by decide),
    extractLsb'_append_high _ _ _ _ (by decide),
    extractLsb'_append_high _ _ _ _ (by decide),
    extractLsb'_append_high _ _ _ _ (by decide),
    extractLsb'_whole]

end encCb

section encCj
variable (f3 : BitVec 3) (off12 : BitVec 12) (op2 : BitVec 2)

@[simp] theorem quadrantOf_encCj : quadrantOf (encCj f3 off12 op2) = op2 := by
  change BitVec.extractLsb' 0 2 (f3 ++ off12.extractLsb' 11 1 ++ off12.extractLsb' 4 1 ++ off12.extractLsb' 8 2 ++ off12.extractLsb' 10 1 ++ off12.extractLsb' 6 1 ++ off12.extractLsb' 7 1 ++ off12.extractLsb' 1 3 ++ off12.extractLsb' 5 1 ++ op2) = op2
  rw [extractLsb'_append_inside _ _ _ _ (by decide),
    extractLsb'_whole]
@[simp] theorem cFunct3Of_encCj : cFunct3Of (encCj f3 off12 op2) = f3 := by
  change BitVec.extractLsb' 13 3 (f3 ++ off12.extractLsb' 11 1 ++ off12.extractLsb' 4 1 ++ off12.extractLsb' 8 2 ++ off12.extractLsb' 10 1 ++ off12.extractLsb' 6 1 ++ off12.extractLsb' 7 1 ++ off12.extractLsb' 1 3 ++ off12.extractLsb' 5 1 ++ op2) = f3
  rw [extractLsb'_append_high _ _ _ _ (by decide),
    extractLsb'_append_high _ _ _ _ (by decide),
    extractLsb'_append_high _ _ _ _ (by decide),
    extractLsb'_append_high _ _ _ _ (by decide),
    extractLsb'_append_high _ _ _ _ (by decide),
    extractLsb'_append_high _ _ _ _ (by decide),
    extractLsb'_append_high _ _ _ _ (by decide),
    extractLsb'_append_high _ _ _ _ (by decide),
    extractLsb'_append_high _ _ _ _ (by decide),
    extractLsb'_whole]

end encCj

end Sys2Proof
end

