-- ==== Sys2Proof/Laws/Memory.lean ====
section
/-!
SUPPORT. The laws of the sparse canonical form, of memory and of the counter table: a read after a write, and that
every operation keeps the canonical form.
-/

namespace Sys2Proof.Machine

section Sparse

variable {β : Type} [DecidableEq β] {d : β}

theorem sparseWf_nil : sparseWf d [] := ⟨List.Pairwise.nil, by simp⟩

theorem sparseWf_tail {p : Nat × β} {m : List (Nat × β)} (h : sparseWf d (p :: m)) : sparseWf d m :=
  ⟨(List.pairwise_cons.mp h.1).2, fun q hq => h.2 q (List.mem_cons_of_mem _ hq)⟩

theorem sparseWf_cons {p : Nat × β} {m : List (Nat × β)} :
    sparseWf d (p :: m) ↔ (∀ q ∈ m, p.1 < q.1) ∧ p.2 ≠ d ∧ sparseWf d m := by
  simp [sparseWf, List.pairwise_cons]
  tauto

omit [DecidableEq β] in
/-- An index below every listed one reads as the default. -/
theorem sparseRead_of_lt {m : List (Nat × β)} {a : Nat} (h : ∀ q ∈ m, a < q.1) : sparseRead d m a = d := by
  induction m with
  | nil => rfl
  | cons p rest ih =>
    have hp := h p (by simp)
    simp only [sparseRead]
    rw [if_neg (by omega), ih fun q hq => h q (List.mem_cons_of_mem _ hq)]

/-- Every entry of the list after a write is the written one or an old one. -/
theorem mem_sparseWrite {m : List (Nat × β)} {a : Nat} {v : β} {q : Nat × β} (h : q ∈ sparseWrite d m a v) :
    q = (a, v) ∧ v ≠ d ∨ q ∈ m := by
  induction m with
  | nil => by_cases hv : v = d <;> simp_all [sparseWrite]
  | cons p rest ih =>
    simp only [sparseWrite] at h
    split_ifs at h with h1 h2 h3 h4
    · exact .inr h
    · rcases List.mem_cons.mp h with h | h
      · exact .inl ⟨h, h2⟩
      · exact .inr h
    · exact .inr (List.mem_cons_of_mem _ h)
    · rcases List.mem_cons.mp h with h | h
      · exact .inl ⟨h, h4⟩
      · exact .inr (List.mem_cons_of_mem _ h)
    · rcases List.mem_cons.mp h with h | h
      · exact .inr (by simp [h])
      · rcases ih h with h | h
        · exact .inl h
        · exact .inr (List.mem_cons_of_mem _ h)

/-- A write keeps the canonical form. -/
theorem sparseWrite_wf {m : List (Nat × β)} (h : sparseWf d m) (a : Nat) (v : β) : sparseWf d (sparseWrite d m a v) := by
  induction m with
  | nil => by_cases hv : v = d <;> simp [sparseWrite, hv, sparseWf]
  | cons p rest ih =>
    obtain ⟨hlt, hne, hr⟩ := sparseWf_cons.mp h
    simp only [sparseWrite]
    split_ifs with h1 h2 h3 h4
    · exact h
    · refine sparseWf_cons.mpr ⟨?_, h2, h⟩
      intro q hq
      rcases List.mem_cons.mp hq with hq | hq
      · simpa [hq] using h1
      · exact lt_trans h1 (hlt q hq)
    · exact hr
    · exact sparseWf_cons.mpr ⟨by simpa [h3] using hlt, h4, hr⟩
    · refine sparseWf_cons.mpr ⟨?_, hne, ih hr⟩
      intro q hq
      rcases mem_sparseWrite hq with ⟨hq, -⟩ | hq
      · simp only [hq]; omega
      · exact hlt q hq

/-- A read after a write: the value written at its index, the old value at every other. -/
theorem sparseRead_write {m : List (Nat × β)} (h : sparseWf d m) (a b : Nat) (v : β) :
    sparseRead d (sparseWrite d m a v) b = if b = a then v else sparseRead d m b := by
  induction m with
  | nil => by_cases hv : v = d <;> simp [sparseWrite, sparseRead, hv]
  | cons p rest ih =>
    obtain ⟨hlt, hne, hr⟩ := sparseWf_cons.mp h
    have below : ∀ c, c < p.1 → sparseRead d rest c = d := fun c hc =>
      sparseRead_of_lt fun q hq => lt_trans hc (hlt q hq)
    have here : sparseRead d rest p.1 = d := sparseRead_of_lt hlt
    rcases lt_trichotomy a p.1 with h1 | h1 | h1
    · have hn : a ≠ p.1 := by omega
      by_cases hv : v = d <;> by_cases hb : b = a <;> simp [sparseWrite, sparseRead, h1, hv, hb, hn, below a h1]
    · subst h1
      by_cases hv : v = d <;> by_cases hb : b = p.1 <;> simp [sparseWrite, sparseRead, hv, hb, here]
    · have hn : a ≠ p.1 := by omega
      have hl : ¬ a < p.1 := by omega
      by_cases hb : b = p.1
      · have : b ≠ a := by omega
        simp [sparseWrite, sparseRead, hl, hn, hb, hn.symm]
      · simp [sparseWrite, sparseRead, hl, hn, hb, ih hr]

/-- A write leaves every other index as it was, in any list. -/
theorem sparseRead_write_ne (m : List (Nat × β)) {a b : Nat} (h : b ≠ a) (v : β) :
    sparseRead d (sparseWrite d m a v) b = sparseRead d m b := by
  induction m with
  | nil => by_cases hv : v = d <;> simp [sparseWrite, sparseRead, hv, h]
  | cons p rest ih =>
    simp only [sparseWrite]
    split_ifs with h1 h2 h3 h4
    · rfl
    · simp [sparseRead, h]
    · simp [sparseRead, ← h3, h]
    · simp [sparseRead, ← h3, h]
    · simp only [sparseRead, ih]

end Sparse

/-! ## Memory -/

theorem Memory.setByte_wf {m : Memory} (h : m.wf) (a : Nat) (v : Byte) : (m.setByte a v).wf := sparseWrite_wf h a v

/-- A byte after a write of one byte. -/
theorem Memory.byte_setByte {m : Memory} (h : m.wf) (a b : Nat) (v : Byte) :
    (m.setByte a v).byte b = if b = a then v else m.byte b := sparseRead_write h a b v

theorem Memory.writeLE_wf {m : Memory} (h : m.wf) (a n v : Nat) : (m.writeLE a n v).wf := by
  induction n generalizing m a v with
  | zero => exact h
  | succ n ih => exact ih (Memory.setByte_wf h a _) _ _

/-- A byte after a little-endian write of `n` bytes (R41): one of the bytes written, or the old byte. -/
theorem Memory.byte_writeLE {m : Memory} (h : m.wf) (a n v b : Nat) :
    (m.writeLE a n v).byte b = if a ≤ b ∧ b < a + n then BitVec.ofNat 8 (v / 256 ^ (b - a)) else m.byte b := by
  induction n generalizing m a v with
  | zero => simp only [Memory.writeLE]; rw [if_neg (by omega)]
  | succ n ih =>
    rw [Memory.writeLE, ih (Memory.setByte_wf h a _), Memory.byte_setByte h]
    by_cases hb : b = a
    · subst hb; simp
    · by_cases hr : a ≤ b ∧ b < a + (n + 1)
      · have h1 : a + 1 ≤ b ∧ b < a + 1 + n := by omega
        rw [if_pos h1, if_pos hr, Nat.div_div_eq_div_mul, ← pow_succ', show b - (a + 1) + 1 = b - a by omega]
      · rw [if_neg (by omega), if_neg hb, if_neg hr]

/-- A byte outside the `n` bytes written stays as it was, in any memory. -/
theorem Memory.byte_writeLE_outside (m : Memory) {a n b : Nat} (v : Nat) (h : b < a ∨ a + n ≤ b) :
    (m.writeLE a n v).byte b = m.byte b := by
  induction n generalizing m a v with
  | zero => rfl
  | succ n ih => rw [Memory.writeLE, ih _ _ (by omega)]; exact sparseRead_write_ne m (by omega) _

/-- Every entry after a write of `n` bytes is one of the bytes written or an old entry. -/
theorem Memory.mem_writeLE {m : Memory} {a n v : Nat} {q : Host.Cell} (h : q ∈ m.writeLE a n v) :
    (a ≤ q.1 ∧ q.1 < a + n) ∨ q ∈ m := by
  induction n generalizing m a v with
  | zero => exact .inr h
  | succ n ih =>
    rcases ih h with h | h
    · exact .inl ⟨by omega, by omega⟩
    · rcases mem_sparseWrite h with ⟨h, -⟩ | h
      · exact .inl (by simp only [h]; omega)
      · exact .inr h

/-- The host's memory writes keep the canonical form. -/
theorem applyMemWrites_wf {p : Platform} {m : Memory} (h : m.wf) (l : List Host.Cell) : (applyMemWrites p m l).wf := by
  induction l generalizing m with
  | nil => exact h
  | cons c rest ih =>
    simp only [applyMemWrites]
    split_ifs
    · exact ih (Memory.setByte_wf h _ _)
    · exact ih h

/-- The host's memory writes change only bytes they list, in the memory region. -/
theorem byte_applyMemWrites {p : Platform} {m : Memory} {l : List Host.Cell} {a : Nat}
    (h : (applyMemWrites p m l).byte a ≠ m.byte a) :
    p.memBase ≤ a ∧ a < p.memBase + p.memSize ∧ ∃ v, (a, v) ∈ l := by
  induction l generalizing m with
  | nil => exact absurd rfl h
  | cons c rest ih =>
    simp only [applyMemWrites] at h
    by_cases hc : a = c.1 ∧ Platform.inRange p c.1 1 = true
    · obtain ⟨rfl, hin⟩ := hc
      simp only [Platform.inRange, Bool.and_eq_true, decide_eq_true_eq] at hin
      exact ⟨hin.1, by omega, c.2, by simp⟩
    · have hm : (if Platform.inRange p c.1 1 then m.setByte c.1 c.2 else m).byte a = m.byte a := by
        split_ifs with hi
        · exact sparseRead_write_ne m (fun he => hc ⟨he, hi⟩) _
        · rfl
      rw [← hm] at h
      obtain ⟨h1, h2, v, hv⟩ := ih h
      exact ⟨h1, h2, v, List.mem_cons_of_mem _ hv⟩

/-- Every entry after the host's memory writes lies in the memory region or is an old entry. -/
theorem mem_applyMemWrites {p : Platform} {m : Memory} {l : List Host.Cell} {q : Host.Cell}
    (h : q ∈ applyMemWrites p m l) : (p.memBase ≤ q.1 ∧ q.1 < p.memBase + p.memSize) ∨ q ∈ m := by
  induction l generalizing m with
  | nil => exact .inr h
  | cons c rest ih =>
    simp only [applyMemWrites] at h
    rcases ih h with h | h
    · exact .inl h
    · split_ifs at h with hin
      · rcases mem_sparseWrite h with ⟨h, -⟩ | h
        · simp only [Platform.inRange, Bool.and_eq_true, decide_eq_true_eq] at hin
          exact .inl (by simp only [h]; omega)
        · exact .inr h
      · exact .inr h

/-- The image of a launch is in canonical form. -/
theorem launchImage_wf (p : Platform) (image : List Host.Cell) : (launchImage p image).wf :=
  applyMemWrites_wf (m := []) sparseWf_nil image

/-- The memory after reset is in canonical form: nothing is listed. -/
theorem reset_mem_wf : State.reset.mem.wf := sparseWf_nil

theorem State.memWrite_wf {s : State} (h : s.mem.wf) (a : Word) (n : Nat) (v : Word) : (s.memWrite a n v).mem.wf :=
  Memory.writeLE_wf h _ _ _

theorem State.withFetchWord_wf {s : State} (h : s.mem.wf) (nbits w : Nat) : (s.withFetchWord nbits w).mem.wf :=
  Memory.writeLE_wf h _ _ _

theorem State.applyReply_wf {s : State} (h : s.mem.wf) (r : HostReply) : (s.applyReply r).mem.wf :=
  applyMemWrites_wf h _

/-! ## Reads (R40) -/

/-- The bytes from `a` on, as the sum of R40. -/
theorem Memory.readLE_eq_sum (m : Memory) (a n : Nat) :
    m.readLE a n = ((List.range n).map fun i => (m.byte (a + i)).toNat * 2 ^ (8 * i)).sum := by
  induction n generalizing a with
  | zero => rfl
  | succ n ih =>
    rw [Memory.readLE, ih, List.range_succ_eq_map, List.map_cons, List.sum_cons, List.map_map, ← List.sum_map_mul_left]
    congr 1
    · simp
    · congr 1
      apply List.map_congr_left
      intro i _
      simp only [Function.comp, show a + 1 + i = a + i.succ by omega, Nat.succ_eq_add_one, Nat.mul_add, pow_add]
      ring

theorem Memory.readLE_lt (m : Memory) (a n : Nat) : m.readLE a n < 256 ^ n := by
  induction n generalizing a with
  | zero => simp [Memory.readLE]
  | succ n ih =>
    have h1 := ih (a + 1)
    have h2 := (m.byte a).isLt
    simp only [Memory.readLE, pow_succ]
    omega

@[simp] theorem Memory.bytes_length (m : Memory) (a n : Nat) : (m.bytes a n).length = n := by
  induction n generalizing a with
  | zero => rfl
  | succ n ih => simp [Memory.bytes, ih]

/-- An access of `n` bytes is in range exactly when its first and last bytes are in the region (R39). -/
theorem Platform.inRange_iff (p : Platform) (a n : Nat) :
    Platform.inRange p a n = true ↔ p.memBase ≤ a ∧ a + n ≤ p.memBase + p.memSize := by
  simp [Platform.inRange]

theorem State.inRange_iff (s : State) (a : Word) (n : Nat) :
    s.inRange a n = true ↔ s.plat.memBase ≤ a.toNat ∧ a.toNat + n ≤ s.plat.memBase + s.plat.memSize :=
  Platform.inRange_iff _ _ _

end Sys2Proof.Machine
end

