-- ==== Sys2Proof/Laws/State.lean ====
section
/-!
SUPPORT. One lemma per field per update of State, each true by `rfl`, so that no proof unfolds a record update.
-/

namespace Sys2Proof.Machine

/-! ## `State.setReg` -/

@[simp] theorem State.setReg_engine (s : State) (r : Reg) (v : Word) : (s.setReg r v).engine = s.engine := rfl
@[simp] theorem State.setReg_cfg (s : State) (r : Reg) (v : Word) : (s.setReg r v).cfg = s.cfg := rfl
@[simp] theorem State.setReg_plat (s : State) (r : Reg) (v : Word) : (s.setReg r v).plat = s.plat := rfl
@[simp] theorem State.setReg_regs (s : State) (r : Reg) (v : Word) : (s.setReg r v).regs = writeRegs s.regs r v := rfl
@[simp] theorem State.setReg_pc (s : State) (r : Reg) (v : Word) : (s.setReg r v).pc = s.pc := rfl
@[simp] theorem State.setReg_mem (s : State) (r : Reg) (v : Word) : (s.setReg r v).mem = s.mem := rfl
@[simp] theorem State.setReg_out (s : State) (r : Reg) (v : Word) : (s.setReg r v).out = s.out := rfl
@[simp] theorem State.setReg_status (s : State) (r : Reg) (v : Word) : (s.setReg r v).status = s.status := rfl
@[simp] theorem State.setReg_ifid (s : State) (r : Reg) (v : Word) : (s.setReg r v).ifid = s.ifid := rfl
@[simp] theorem State.setReg_idex (s : State) (r : Reg) (v : Word) : (s.setReg r v).idex = s.idex := rfl
@[simp] theorem State.setReg_exmem (s : State) (r : Reg) (v : Word) : (s.setReg r v).exmem = s.exmem := rfl
@[simp] theorem State.setReg_memwb (s : State) (r : Reg) (v : Word) : (s.setReg r v).memwb = s.memwb := rfl
@[simp] theorem State.setReg_counters (s : State) (r : Reg) (v : Word) : (s.setReg r v).counters = s.counters := rfl
@[simp] theorem State.setReg_ghr (s : State) (r : Reg) (v : Word) : (s.setReg r v).ghr = s.ghr := rfl
@[simp] theorem State.setReg_rasStack (s : State) (r : Reg) (v : Word) : (s.setReg r v).rasStack = s.rasStack := rfl
@[simp] theorem State.setReg_metrics (s : State) (r : Reg) (v : Word) : (s.setReg r v).metrics = s.metrics := rfl
@[simp] theorem State.setReg_fetchMode (s : State) (r : Reg) (v : Word) :
    (s.setReg r v).fetchMode = s.fetchMode := rfl

/-! ## `State.setPc` -/

@[simp] theorem State.setPc_engine (s : State) (a : Word) : (s.setPc a).engine = s.engine := rfl
@[simp] theorem State.setPc_cfg (s : State) (a : Word) : (s.setPc a).cfg = s.cfg := rfl
@[simp] theorem State.setPc_plat (s : State) (a : Word) : (s.setPc a).plat = s.plat := rfl
@[simp] theorem State.setPc_regs (s : State) (a : Word) : (s.setPc a).regs = s.regs := rfl
@[simp] theorem State.setPc_pc (s : State) (a : Word) : (s.setPc a).pc = a := rfl
@[simp] theorem State.setPc_mem (s : State) (a : Word) : (s.setPc a).mem = s.mem := rfl
@[simp] theorem State.setPc_out (s : State) (a : Word) : (s.setPc a).out = s.out := rfl
@[simp] theorem State.setPc_status (s : State) (a : Word) : (s.setPc a).status = s.status := rfl
@[simp] theorem State.setPc_ifid (s : State) (a : Word) : (s.setPc a).ifid = s.ifid := rfl
@[simp] theorem State.setPc_idex (s : State) (a : Word) : (s.setPc a).idex = s.idex := rfl
@[simp] theorem State.setPc_exmem (s : State) (a : Word) : (s.setPc a).exmem = s.exmem := rfl
@[simp] theorem State.setPc_memwb (s : State) (a : Word) : (s.setPc a).memwb = s.memwb := rfl
@[simp] theorem State.setPc_counters (s : State) (a : Word) : (s.setPc a).counters = s.counters := rfl
@[simp] theorem State.setPc_ghr (s : State) (a : Word) : (s.setPc a).ghr = s.ghr := rfl
@[simp] theorem State.setPc_rasStack (s : State) (a : Word) : (s.setPc a).rasStack = s.rasStack := rfl
@[simp] theorem State.setPc_metrics (s : State) (a : Word) : (s.setPc a).metrics = s.metrics := rfl
@[simp] theorem State.setPc_fetchMode (s : State) (a : Word) : (s.setPc a).fetchMode = s.fetchMode := rfl

/-! ## `State.setStatus` -/

@[simp] theorem State.setStatus_engine (s : State) (st : Status) : (s.setStatus st).engine = s.engine := rfl
@[simp] theorem State.setStatus_cfg (s : State) (st : Status) : (s.setStatus st).cfg = s.cfg := rfl
@[simp] theorem State.setStatus_plat (s : State) (st : Status) : (s.setStatus st).plat = s.plat := rfl
@[simp] theorem State.setStatus_regs (s : State) (st : Status) : (s.setStatus st).regs = s.regs := rfl
@[simp] theorem State.setStatus_pc (s : State) (st : Status) : (s.setStatus st).pc = s.pc := rfl
@[simp] theorem State.setStatus_mem (s : State) (st : Status) : (s.setStatus st).mem = s.mem := rfl
@[simp] theorem State.setStatus_out (s : State) (st : Status) : (s.setStatus st).out = s.out := rfl
@[simp] theorem State.setStatus_status (s : State) (st : Status) : (s.setStatus st).status = st := rfl
@[simp] theorem State.setStatus_ifid (s : State) (st : Status) : (s.setStatus st).ifid = s.ifid := rfl
@[simp] theorem State.setStatus_idex (s : State) (st : Status) : (s.setStatus st).idex = s.idex := rfl
@[simp] theorem State.setStatus_exmem (s : State) (st : Status) : (s.setStatus st).exmem = s.exmem := rfl
@[simp] theorem State.setStatus_memwb (s : State) (st : Status) : (s.setStatus st).memwb = s.memwb := rfl
@[simp] theorem State.setStatus_counters (s : State) (st : Status) : (s.setStatus st).counters = s.counters := rfl
@[simp] theorem State.setStatus_ghr (s : State) (st : Status) : (s.setStatus st).ghr = s.ghr := rfl
@[simp] theorem State.setStatus_rasStack (s : State) (st : Status) : (s.setStatus st).rasStack = s.rasStack := rfl
@[simp] theorem State.setStatus_metrics (s : State) (st : Status) : (s.setStatus st).metrics = s.metrics := rfl
@[simp] theorem State.setStatus_fetchMode (s : State) (st : Status) : (s.setStatus st).fetchMode = s.fetchMode := rfl

/-! ## `State.raise` -/

@[simp] theorem State.raise_engine (s : State) (e : RunError) : (s.raise e).engine = s.engine := rfl
@[simp] theorem State.raise_cfg (s : State) (e : RunError) : (s.raise e).cfg = s.cfg := rfl
@[simp] theorem State.raise_plat (s : State) (e : RunError) : (s.raise e).plat = s.plat := rfl
@[simp] theorem State.raise_regs (s : State) (e : RunError) : (s.raise e).regs = s.regs := rfl
@[simp] theorem State.raise_pc (s : State) (e : RunError) : (s.raise e).pc = s.pc := rfl
@[simp] theorem State.raise_mem (s : State) (e : RunError) : (s.raise e).mem = s.mem := rfl
@[simp] theorem State.raise_out (s : State) (e : RunError) : (s.raise e).out = s.out := rfl
@[simp] theorem State.raise_status (s : State) (e : RunError) : (s.raise e).status = .error e := rfl
@[simp] theorem State.raise_ifid (s : State) (e : RunError) : (s.raise e).ifid = s.ifid := rfl
@[simp] theorem State.raise_idex (s : State) (e : RunError) : (s.raise e).idex = s.idex := rfl
@[simp] theorem State.raise_exmem (s : State) (e : RunError) : (s.raise e).exmem = s.exmem := rfl
@[simp] theorem State.raise_memwb (s : State) (e : RunError) : (s.raise e).memwb = s.memwb := rfl
@[simp] theorem State.raise_counters (s : State) (e : RunError) : (s.raise e).counters = s.counters := rfl
@[simp] theorem State.raise_ghr (s : State) (e : RunError) : (s.raise e).ghr = s.ghr := rfl
@[simp] theorem State.raise_rasStack (s : State) (e : RunError) : (s.raise e).rasStack = s.rasStack := rfl
@[simp] theorem State.raise_metrics (s : State) (e : RunError) : (s.raise e).metrics = s.metrics := rfl
@[simp] theorem State.raise_fetchMode (s : State) (e : RunError) : (s.raise e).fetchMode = s.fetchMode := rfl

/-! ## The reference units -/

@[simp] theorem MemoryBus.reference_inRange (p : Platform) (a n : Nat) :
    MemoryBus.reference.inRange p a n = Platform.inRange p a n := rfl
@[simp] theorem MemoryBus.reference_read (m : Memory) (a n : Nat) : MemoryBus.reference.read m a n = m.readLE a n := rfl
@[simp] theorem MemoryBus.reference_write (m : Memory) (a n v : Nat) :
    MemoryBus.reference.write m a n v = m.writeLE a n v := rfl
@[simp] theorem Units.reference_bus : Units.reference.bus = .reference := rfl
@[simp] theorem Units.reference_compute (op : Op) (pc : Word) (len : Len) (imm a b : Word) :
    Units.reference.compute op pc len imm a b = Sys2Proof.Machine.compute op pc len imm a b := rfl
@[simp] theorem Units.reference_decode (word : InstWord) (len : Len) :
    Units.reference.decode word len = decodeRecord word len := rfl
/-- The reference Decoder's record is that of the instruction the word is. -/
theorem decodeRecord_ok {word : InstWord} {len : Len} {i : Instr} (h : decode word len = .ok i) :
    decodeRecord word len = .ok (recordOf i) := by simp [decodeRecord, h]
theorem decodeRecord_error {word : InstWord} {len : Len} {e : DecodeError} (h : decode word len = .error e) :
    decodeRecord word len = .error e := by simp [decodeRecord, h]

/-! ## `State.memWrite` -/

@[simp] theorem State.memWrite_engine (s : State) (a : Word) (n : Nat) (v : Word) (bus : MemoryBus) :
    (s.memWrite a n v bus).engine = s.engine := rfl
@[simp] theorem State.memWrite_cfg (s : State) (a : Word) (n : Nat) (v : Word) (bus : MemoryBus) :
    (s.memWrite a n v bus).cfg = s.cfg := rfl
@[simp] theorem State.memWrite_plat (s : State) (a : Word) (n : Nat) (v : Word) (bus : MemoryBus) :
    (s.memWrite a n v bus).plat = s.plat := rfl
@[simp] theorem State.memWrite_regs (s : State) (a : Word) (n : Nat) (v : Word) (bus : MemoryBus) :
    (s.memWrite a n v bus).regs = s.regs := rfl
@[simp] theorem State.memWrite_pc (s : State) (a : Word) (n : Nat) (v : Word) (bus : MemoryBus) :
    (s.memWrite a n v bus).pc = s.pc := rfl
@[simp] theorem State.memWrite_mem (s : State) (a : Word) (n : Nat) (v : Word) :
    (s.memWrite a n v).mem = s.mem.writeLE a.toNat n v.toNat := rfl
@[simp] theorem State.memWrite_out (s : State) (a : Word) (n : Nat) (v : Word) (bus : MemoryBus) :
    (s.memWrite a n v bus).out = s.out := rfl
@[simp] theorem State.memWrite_status (s : State) (a : Word) (n : Nat) (v : Word) (bus : MemoryBus) :
    (s.memWrite a n v bus).status = s.status := rfl
@[simp] theorem State.memWrite_ifid (s : State) (a : Word) (n : Nat) (v : Word) (bus : MemoryBus) :
    (s.memWrite a n v bus).ifid = s.ifid := rfl
@[simp] theorem State.memWrite_idex (s : State) (a : Word) (n : Nat) (v : Word) (bus : MemoryBus) :
    (s.memWrite a n v bus).idex = s.idex := rfl
@[simp] theorem State.memWrite_exmem (s : State) (a : Word) (n : Nat) (v : Word) (bus : MemoryBus) :
    (s.memWrite a n v bus).exmem = s.exmem := rfl
@[simp] theorem State.memWrite_memwb (s : State) (a : Word) (n : Nat) (v : Word) (bus : MemoryBus) :
    (s.memWrite a n v bus).memwb = s.memwb := rfl
@[simp] theorem State.memWrite_counters (s : State) (a : Word) (n : Nat) (v : Word) (bus : MemoryBus) :
    (s.memWrite a n v bus).counters = s.counters := rfl
@[simp] theorem State.memWrite_ghr (s : State) (a : Word) (n : Nat) (v : Word) (bus : MemoryBus) :
    (s.memWrite a n v bus).ghr = s.ghr := rfl
@[simp] theorem State.memWrite_rasStack (s : State) (a : Word) (n : Nat) (v : Word) (bus : MemoryBus) :
    (s.memWrite a n v bus).rasStack = s.rasStack := rfl
@[simp] theorem State.memWrite_metrics (s : State) (a : Word) (n : Nat) (v : Word) (bus : MemoryBus) :
    (s.memWrite a n v bus).metrics = s.metrics := rfl
@[simp] theorem State.memWrite_fetchMode (s : State) (a : Word) (n : Nat) (v : Word) (bus : MemoryBus) :
    (s.memWrite a n v bus).fetchMode = s.fetchMode := rfl

/-! ## `State.applyReply` -/

@[simp] theorem State.applyReply_engine (s : State) (r : HostReply) : (s.applyReply r).engine = s.engine := rfl
@[simp] theorem State.applyReply_cfg (s : State) (r : HostReply) : (s.applyReply r).cfg = s.cfg := rfl
@[simp] theorem State.applyReply_plat (s : State) (r : HostReply) : (s.applyReply r).plat = s.plat := rfl
@[simp] theorem State.applyReply_regs (s : State) (r : HostReply) :
    (s.applyReply r).regs = applyRegWrites s.regs r.regWrites := rfl
@[simp] theorem State.applyReply_pc (s : State) (r : HostReply) : (s.applyReply r).pc = s.pc := rfl
@[simp] theorem State.applyReply_mem (s : State) (r : HostReply) :
    (s.applyReply r).mem = applyMemWrites s.plat s.mem r.memWrites := rfl
@[simp] theorem State.applyReply_out (s : State) (r : HostReply) : (s.applyReply r).out = s.out ++ r.appended := rfl
@[simp] theorem State.applyReply_status (s : State) (r : HostReply) : (s.applyReply r).status = s.status := rfl
@[simp] theorem State.applyReply_ifid (s : State) (r : HostReply) : (s.applyReply r).ifid = s.ifid := rfl
@[simp] theorem State.applyReply_idex (s : State) (r : HostReply) : (s.applyReply r).idex = s.idex := rfl
@[simp] theorem State.applyReply_exmem (s : State) (r : HostReply) : (s.applyReply r).exmem = s.exmem := rfl
@[simp] theorem State.applyReply_memwb (s : State) (r : HostReply) : (s.applyReply r).memwb = s.memwb := rfl
@[simp] theorem State.applyReply_counters (s : State) (r : HostReply) : (s.applyReply r).counters = s.counters := rfl
@[simp] theorem State.applyReply_ghr (s : State) (r : HostReply) : (s.applyReply r).ghr = s.ghr := rfl
@[simp] theorem State.applyReply_rasStack (s : State) (r : HostReply) : (s.applyReply r).rasStack = s.rasStack := rfl
@[simp] theorem State.applyReply_metrics (s : State) (r : HostReply) : (s.applyReply r).metrics = s.metrics := rfl
@[simp] theorem State.applyReply_fetchMode (s : State) (r : HostReply) :
    (s.applyReply r).fetchMode = s.fetchMode := rfl

/-! ## `State.count` -/

@[simp] theorem State.count_engine (s : State) (f : Metrics → Metrics) : (s.count f).engine = s.engine := rfl
@[simp] theorem State.count_cfg (s : State) (f : Metrics → Metrics) : (s.count f).cfg = s.cfg := rfl
@[simp] theorem State.count_plat (s : State) (f : Metrics → Metrics) : (s.count f).plat = s.plat := rfl
@[simp] theorem State.count_regs (s : State) (f : Metrics → Metrics) : (s.count f).regs = s.regs := rfl
@[simp] theorem State.count_pc (s : State) (f : Metrics → Metrics) : (s.count f).pc = s.pc := rfl
@[simp] theorem State.count_mem (s : State) (f : Metrics → Metrics) : (s.count f).mem = s.mem := rfl
@[simp] theorem State.count_out (s : State) (f : Metrics → Metrics) : (s.count f).out = s.out := rfl
@[simp] theorem State.count_status (s : State) (f : Metrics → Metrics) : (s.count f).status = s.status := rfl
@[simp] theorem State.count_ifid (s : State) (f : Metrics → Metrics) : (s.count f).ifid = s.ifid := rfl
@[simp] theorem State.count_idex (s : State) (f : Metrics → Metrics) : (s.count f).idex = s.idex := rfl
@[simp] theorem State.count_exmem (s : State) (f : Metrics → Metrics) : (s.count f).exmem = s.exmem := rfl
@[simp] theorem State.count_memwb (s : State) (f : Metrics → Metrics) : (s.count f).memwb = s.memwb := rfl
@[simp] theorem State.count_counters (s : State) (f : Metrics → Metrics) : (s.count f).counters = s.counters := rfl
@[simp] theorem State.count_ghr (s : State) (f : Metrics → Metrics) : (s.count f).ghr = s.ghr := rfl
@[simp] theorem State.count_rasStack (s : State) (f : Metrics → Metrics) : (s.count f).rasStack = s.rasStack := rfl
@[simp] theorem State.count_metrics (s : State) (f : Metrics → Metrics) : (s.count f).metrics = f s.metrics := rfl
@[simp] theorem State.count_fetchMode (s : State) (f : Metrics → Metrics) : (s.count f).fetchMode = s.fetchMode := rfl

/-! ## `State.clearFront` -/

@[simp] theorem State.clearFront_engine (s : State) : (s.clearFront).engine = s.engine := rfl
@[simp] theorem State.clearFront_cfg (s : State) : (s.clearFront).cfg = s.cfg := rfl
@[simp] theorem State.clearFront_plat (s : State) : (s.clearFront).plat = s.plat := rfl
@[simp] theorem State.clearFront_regs (s : State) : (s.clearFront).regs = s.regs := rfl
@[simp] theorem State.clearFront_pc (s : State) : (s.clearFront).pc = s.pc := rfl
@[simp] theorem State.clearFront_mem (s : State) : (s.clearFront).mem = s.mem := rfl
@[simp] theorem State.clearFront_out (s : State) : (s.clearFront).out = s.out := rfl
@[simp] theorem State.clearFront_status (s : State) : (s.clearFront).status = s.status := rfl
@[simp] theorem State.clearFront_ifid (s : State) : (s.clearFront).ifid = s.ifid.cleared := rfl
@[simp] theorem State.clearFront_idex (s : State) : (s.clearFront).idex = s.idex.cleared := rfl
@[simp] theorem State.clearFront_exmem (s : State) : (s.clearFront).exmem = s.exmem := rfl
@[simp] theorem State.clearFront_memwb (s : State) : (s.clearFront).memwb = s.memwb := rfl
@[simp] theorem State.clearFront_counters (s : State) : (s.clearFront).counters = s.counters := rfl
@[simp] theorem State.clearFront_ghr (s : State) : (s.clearFront).ghr = s.ghr := rfl
@[simp] theorem State.clearFront_rasStack (s : State) : (s.clearFront).rasStack = s.rasStack := rfl
@[simp] theorem State.clearFront_metrics (s : State) : (s.clearFront).metrics = s.metrics := rfl
@[simp] theorem State.clearFront_fetchMode (s : State) : (s.clearFront).fetchMode = s.fetchMode := rfl

/-! ## `State.stallDecode` -/

@[simp] theorem State.stallDecode_engine (s : State) : (s.stallDecode).engine = s.engine := rfl
@[simp] theorem State.stallDecode_cfg (s : State) : (s.stallDecode).cfg = s.cfg := rfl
@[simp] theorem State.stallDecode_plat (s : State) : (s.stallDecode).plat = s.plat := rfl
@[simp] theorem State.stallDecode_regs (s : State) : (s.stallDecode).regs = s.regs := rfl
@[simp] theorem State.stallDecode_pc (s : State) : (s.stallDecode).pc = s.pc := rfl
@[simp] theorem State.stallDecode_mem (s : State) : (s.stallDecode).mem = s.mem := rfl
@[simp] theorem State.stallDecode_out (s : State) : (s.stallDecode).out = s.out := rfl
@[simp] theorem State.stallDecode_status (s : State) : (s.stallDecode).status = s.status := rfl
@[simp] theorem State.stallDecode_ifid (s : State) : (s.stallDecode).ifid = s.ifid := rfl
@[simp] theorem State.stallDecode_idex (s : State) : (s.stallDecode).idex = s.idex.cleared := rfl
@[simp] theorem State.stallDecode_exmem (s : State) : (s.stallDecode).exmem = s.exmem := rfl
@[simp] theorem State.stallDecode_memwb (s : State) : (s.stallDecode).memwb = s.memwb := rfl
@[simp] theorem State.stallDecode_counters (s : State) : (s.stallDecode).counters = s.counters := rfl
@[simp] theorem State.stallDecode_ghr (s : State) : (s.stallDecode).ghr = s.ghr := rfl
@[simp] theorem State.stallDecode_rasStack (s : State) : (s.stallDecode).rasStack = s.rasStack := rfl
@[simp] theorem State.stallDecode_metrics (s : State) :
    (s.stallDecode).metrics = { s.metrics with stalls := s.metrics.stalls + 1 } := rfl
@[simp] theorem State.stallDecode_fetchMode (s : State) : (s.stallDecode).fetchMode = .hold := rfl

/-! ## `State.beginCycle` -/

@[simp] theorem State.beginCycle_engine (s : State) : (s.beginCycle).engine = s.engine := rfl
@[simp] theorem State.beginCycle_cfg (s : State) : (s.beginCycle).cfg = s.cfg := rfl
@[simp] theorem State.beginCycle_plat (s : State) : (s.beginCycle).plat = s.plat := rfl
@[simp] theorem State.beginCycle_regs (s : State) : (s.beginCycle).regs = s.regs := rfl
@[simp] theorem State.beginCycle_pc (s : State) : (s.beginCycle).pc = s.pc := rfl
@[simp] theorem State.beginCycle_mem (s : State) : (s.beginCycle).mem = s.mem := rfl
@[simp] theorem State.beginCycle_out (s : State) : (s.beginCycle).out = s.out := rfl
@[simp] theorem State.beginCycle_status (s : State) : (s.beginCycle).status = s.status := rfl
@[simp] theorem State.beginCycle_ifid (s : State) : (s.beginCycle).ifid = { s.ifid with isStalled := false } := rfl
@[simp] theorem State.beginCycle_idex (s : State) : (s.beginCycle).idex = s.idex := rfl
@[simp] theorem State.beginCycle_exmem (s : State) : (s.beginCycle).exmem = s.exmem := rfl
@[simp] theorem State.beginCycle_memwb (s : State) : (s.beginCycle).memwb = s.memwb := rfl
@[simp] theorem State.beginCycle_counters (s : State) : (s.beginCycle).counters = s.counters := rfl
@[simp] theorem State.beginCycle_ghr (s : State) : (s.beginCycle).ghr = s.ghr := rfl
@[simp] theorem State.beginCycle_rasStack (s : State) : (s.beginCycle).rasStack = s.rasStack := rfl
@[simp] theorem State.beginCycle_metrics (s : State) :
    (s.beginCycle).metrics = { s.metrics with cycles := s.metrics.cycles + 1 } := rfl
@[simp] theorem State.beginCycle_fetchMode (s : State) : (s.beginCycle).fetchMode = .run := rfl

/-! ## `State.executeStage` -/

@[simp] theorem State.executeStage_engine (s : State) (units : Units) : (s.executeStage units).engine = s.engine := rfl
@[simp] theorem State.executeStage_cfg (s : State) (units : Units) : (s.executeStage units).cfg = s.cfg := rfl
@[simp] theorem State.executeStage_plat (s : State) (units : Units) : (s.executeStage units).plat = s.plat := rfl
@[simp] theorem State.executeStage_regs (s : State) (units : Units) : (s.executeStage units).regs = s.regs := rfl
@[simp] theorem State.executeStage_pc (s : State) (units : Units) : (s.executeStage units).pc = s.pc := rfl
@[simp] theorem State.executeStage_mem (s : State) (units : Units) : (s.executeStage units).mem = s.mem := rfl
@[simp] theorem State.executeStage_out (s : State) (units : Units) : (s.executeStage units).out = s.out := rfl
@[simp] theorem State.executeStage_status (s : State) (units : Units) : (s.executeStage units).status = s.status := rfl
@[simp] theorem State.executeStage_ifid (s : State) (units : Units) : (s.executeStage units).ifid = s.ifid := rfl
@[simp] theorem State.executeStage_idex (s : State) (units : Units) : (s.executeStage units).idex = s.idex := rfl
@[simp] theorem State.executeStage_exmem (s : State) (units : Units) :
    (s.executeStage units).exmem = s.exmem.withLanes (executeLanes [] s.idex.lanes units) := rfl
@[simp] theorem State.executeStage_memwb (s : State) (units : Units) : (s.executeStage units).memwb = s.memwb := rfl
@[simp] theorem State.executeStage_counters (s : State) (units : Units) : (s.executeStage units).counters = s.counters := rfl
@[simp] theorem State.executeStage_ghr (s : State) (units : Units) : (s.executeStage units).ghr = s.ghr := rfl
@[simp] theorem State.executeStage_rasStack (s : State) (units : Units) : (s.executeStage units).rasStack = s.rasStack := rfl
@[simp] theorem State.executeStage_metrics (s : State) (units : Units) : (s.executeStage units).metrics = s.metrics := rfl
@[simp] theorem State.executeStage_fetchMode (s : State) (units : Units) : (s.executeStage units).fetchMode = s.fetchMode := rfl

/-! ## `State.countRetired` -/

@[simp] theorem State.countRetired_engine (s : State) (u : MicroOp) : (s.countRetired u).engine = s.engine := rfl
@[simp] theorem State.countRetired_cfg (s : State) (u : MicroOp) : (s.countRetired u).cfg = s.cfg := rfl
@[simp] theorem State.countRetired_plat (s : State) (u : MicroOp) : (s.countRetired u).plat = s.plat := rfl
@[simp] theorem State.countRetired_regs (s : State) (u : MicroOp) : (s.countRetired u).regs = s.regs := rfl
@[simp] theorem State.countRetired_pc (s : State) (u : MicroOp) : (s.countRetired u).pc = s.pc := rfl
@[simp] theorem State.countRetired_mem (s : State) (u : MicroOp) : (s.countRetired u).mem = s.mem := rfl
@[simp] theorem State.countRetired_out (s : State) (u : MicroOp) : (s.countRetired u).out = s.out := rfl
@[simp] theorem State.countRetired_status (s : State) (u : MicroOp) : (s.countRetired u).status = s.status := rfl
@[simp] theorem State.countRetired_ifid (s : State) (u : MicroOp) : (s.countRetired u).ifid = s.ifid := rfl
@[simp] theorem State.countRetired_idex (s : State) (u : MicroOp) : (s.countRetired u).idex = s.idex := rfl
@[simp] theorem State.countRetired_exmem (s : State) (u : MicroOp) : (s.countRetired u).exmem = s.exmem := rfl
@[simp] theorem State.countRetired_memwb (s : State) (u : MicroOp) : (s.countRetired u).memwb = s.memwb := rfl
@[simp] theorem State.countRetired_counters (s : State) (u : MicroOp) :
    (s.countRetired u).counters = s.counters := rfl
@[simp] theorem State.countRetired_ghr (s : State) (u : MicroOp) : (s.countRetired u).ghr = s.ghr := rfl
@[simp] theorem State.countRetired_rasStack (s : State) (u : MicroOp) :
    (s.countRetired u).rasStack = s.rasStack := rfl
@[simp] theorem State.countRetired_metrics (s : State) (u : MicroOp) :
    (s.countRetired u).metrics =
      { s.metrics with
        isaRetired := s.metrics.isaRetired + 1
        committed := if u.fusedPrev then s.metrics.committed else s.metrics.committed + 1 } := rfl
@[simp] theorem State.countRetired_fetchMode (s : State) (u : MicroOp) :
    (s.countRetired u).fetchMode = s.fetchMode := rfl

/-! ## `State.snoopFlush` -/

@[simp] theorem State.snoopFlush_engine (s : State) (u : MicroOp) : (s.snoopFlush u).engine = s.engine := rfl
@[simp] theorem State.snoopFlush_cfg (s : State) (u : MicroOp) : (s.snoopFlush u).cfg = s.cfg := rfl
@[simp] theorem State.snoopFlush_plat (s : State) (u : MicroOp) : (s.snoopFlush u).plat = s.plat := rfl
@[simp] theorem State.snoopFlush_regs (s : State) (u : MicroOp) : (s.snoopFlush u).regs = s.regs := rfl
@[simp] theorem State.snoopFlush_pc (s : State) (u : MicroOp) : (s.snoopFlush u).pc = u.nextPc := rfl
@[simp] theorem State.snoopFlush_mem (s : State) (u : MicroOp) : (s.snoopFlush u).mem = s.mem := rfl
@[simp] theorem State.snoopFlush_out (s : State) (u : MicroOp) : (s.snoopFlush u).out = s.out := rfl
@[simp] theorem State.snoopFlush_status (s : State) (u : MicroOp) : (s.snoopFlush u).status = s.status := rfl
@[simp] theorem State.snoopFlush_ifid (s : State) (u : MicroOp) : (s.snoopFlush u).ifid = s.ifid.cleared := rfl
@[simp] theorem State.snoopFlush_idex (s : State) (u : MicroOp) : (s.snoopFlush u).idex = s.idex.cleared := rfl
@[simp] theorem State.snoopFlush_exmem (s : State) (u : MicroOp) : (s.snoopFlush u).exmem = s.exmem := rfl
@[simp] theorem State.snoopFlush_memwb (s : State) (u : MicroOp) : (s.snoopFlush u).memwb = s.memwb := rfl
@[simp] theorem State.snoopFlush_counters (s : State) (u : MicroOp) : (s.snoopFlush u).counters = s.counters := rfl
@[simp] theorem State.snoopFlush_ghr (s : State) (u : MicroOp) : (s.snoopFlush u).ghr = s.ghr := rfl
@[simp] theorem State.snoopFlush_rasStack (s : State) (u : MicroOp) : (s.snoopFlush u).rasStack = s.rasStack := rfl
@[simp] theorem State.snoopFlush_metrics (s : State) (u : MicroOp) :
    (s.snoopFlush u).metrics = { s.metrics with flushes := s.metrics.flushes + 1 } := rfl
@[simp] theorem State.snoopFlush_fetchMode (s : State) (u : MicroOp) : (s.snoopFlush u).fetchMode = s.fetchMode := rfl

/-! ## `State.serialFlush` -/

@[simp] theorem State.serialFlush_engine (s : State) (u : MicroOp) : (s.serialFlush u).engine = s.engine := rfl
@[simp] theorem State.serialFlush_cfg (s : State) (u : MicroOp) : (s.serialFlush u).cfg = s.cfg := rfl
@[simp] theorem State.serialFlush_plat (s : State) (u : MicroOp) : (s.serialFlush u).plat = s.plat := rfl
@[simp] theorem State.serialFlush_regs (s : State) (u : MicroOp) : (s.serialFlush u).regs = s.regs := rfl
@[simp] theorem State.serialFlush_pc (s : State) (u : MicroOp) : (s.serialFlush u).pc = u.nextPc := rfl
@[simp] theorem State.serialFlush_mem (s : State) (u : MicroOp) : (s.serialFlush u).mem = s.mem := rfl
@[simp] theorem State.serialFlush_out (s : State) (u : MicroOp) : (s.serialFlush u).out = s.out := rfl
@[simp] theorem State.serialFlush_status (s : State) (u : MicroOp) : (s.serialFlush u).status = s.status := rfl
@[simp] theorem State.serialFlush_ifid (s : State) (u : MicroOp) : (s.serialFlush u).ifid = s.ifid.cleared := rfl
@[simp] theorem State.serialFlush_idex (s : State) (u : MicroOp) : (s.serialFlush u).idex = s.idex.cleared := rfl
@[simp] theorem State.serialFlush_exmem (s : State) (u : MicroOp) : (s.serialFlush u).exmem = s.exmem.cleared := rfl
@[simp] theorem State.serialFlush_memwb (s : State) (u : MicroOp) : (s.serialFlush u).memwb = s.memwb := rfl
@[simp] theorem State.serialFlush_counters (s : State) (u : MicroOp) : (s.serialFlush u).counters = s.counters := rfl
@[simp] theorem State.serialFlush_ghr (s : State) (u : MicroOp) : (s.serialFlush u).ghr = s.ghr := rfl
@[simp] theorem State.serialFlush_rasStack (s : State) (u : MicroOp) : (s.serialFlush u).rasStack = s.rasStack := rfl
@[simp] theorem State.serialFlush_metrics (s : State) (u : MicroOp) :
    (s.serialFlush u).metrics = { s.metrics with flushes := s.metrics.flushes + 1 } := rfl
@[simp] theorem State.serialFlush_fetchMode (s : State) (u : MicroOp) :
    (s.serialFlush u).fetchMode = s.fetchMode := rfl

/-! ## `State.redirect` -/

@[simp] theorem State.redirect_engine (s : State) (u : MicroOp) : (s.redirect u).engine = s.engine := rfl
@[simp] theorem State.redirect_cfg (s : State) (u : MicroOp) : (s.redirect u).cfg = s.cfg := rfl
@[simp] theorem State.redirect_plat (s : State) (u : MicroOp) : (s.redirect u).plat = s.plat := rfl
@[simp] theorem State.redirect_regs (s : State) (u : MicroOp) : (s.redirect u).regs = s.regs := rfl
@[simp] theorem State.redirect_pc (s : State) (u : MicroOp) : (s.redirect u).pc = u.actualPc := rfl
@[simp] theorem State.redirect_mem (s : State) (u : MicroOp) : (s.redirect u).mem = s.mem := rfl
@[simp] theorem State.redirect_out (s : State) (u : MicroOp) : (s.redirect u).out = s.out := rfl
@[simp] theorem State.redirect_status (s : State) (u : MicroOp) : (s.redirect u).status = s.status := rfl
@[simp] theorem State.redirect_ifid (s : State) (u : MicroOp) : (s.redirect u).ifid = s.ifid.cleared := rfl
@[simp] theorem State.redirect_idex (s : State) (u : MicroOp) : (s.redirect u).idex = s.idex.cleared := rfl
@[simp] theorem State.redirect_exmem (s : State) (u : MicroOp) : (s.redirect u).exmem = s.exmem := rfl
@[simp] theorem State.redirect_memwb (s : State) (u : MicroOp) : (s.redirect u).memwb = s.memwb := rfl
@[simp] theorem State.redirect_counters (s : State) (u : MicroOp) : (s.redirect u).counters = s.counters := rfl
@[simp] theorem State.redirect_ghr (s : State) (u : MicroOp) : (s.redirect u).ghr = s.ghr := rfl
@[simp] theorem State.redirect_rasStack (s : State) (u : MicroOp) : (s.redirect u).rasStack = s.rasStack := rfl
@[simp] theorem State.redirect_metrics (s : State) (u : MicroOp) :
    (s.redirect u).metrics =
      { s.metrics with flushes := s.metrics.flushes + 1, mispredicts := s.metrics.mispredicts + 1 } := rfl
@[simp] theorem State.redirect_fetchMode (s : State) (u : MicroOp) :
    (s.redirect u).fetchMode = if s.cfg.ebr then s.fetchMode else .bubble := rfl

/-! ## `State.withEngine` -/

@[simp] theorem State.withEngine_engine (s : State) (e : Engine) : (s.withEngine e).engine = e := rfl
@[simp] theorem State.withEngine_cfg (s : State) (e : Engine) : (s.withEngine e).cfg = s.cfg := rfl
@[simp] theorem State.withEngine_plat (s : State) (e : Engine) : (s.withEngine e).plat = s.plat := rfl
@[simp] theorem State.withEngine_regs (s : State) (e : Engine) : (s.withEngine e).regs = s.regs := rfl
@[simp] theorem State.withEngine_pc (s : State) (e : Engine) : (s.withEngine e).pc = s.pc := rfl
@[simp] theorem State.withEngine_mem (s : State) (e : Engine) : (s.withEngine e).mem = s.mem := rfl
@[simp] theorem State.withEngine_out (s : State) (e : Engine) : (s.withEngine e).out = s.out := rfl
@[simp] theorem State.withEngine_status (s : State) (e : Engine) : (s.withEngine e).status = s.status := rfl
@[simp] theorem State.withEngine_ifid (s : State) (e : Engine) : (s.withEngine e).ifid = s.ifid := rfl
@[simp] theorem State.withEngine_idex (s : State) (e : Engine) : (s.withEngine e).idex = s.idex := rfl
@[simp] theorem State.withEngine_exmem (s : State) (e : Engine) : (s.withEngine e).exmem = s.exmem := rfl
@[simp] theorem State.withEngine_memwb (s : State) (e : Engine) : (s.withEngine e).memwb = s.memwb := rfl
@[simp] theorem State.withEngine_counters (s : State) (e : Engine) : (s.withEngine e).counters = s.counters := rfl
@[simp] theorem State.withEngine_ghr (s : State) (e : Engine) : (s.withEngine e).ghr = s.ghr := rfl
@[simp] theorem State.withEngine_rasStack (s : State) (e : Engine) : (s.withEngine e).rasStack = s.rasStack := rfl
@[simp] theorem State.withEngine_metrics (s : State) (e : Engine) : (s.withEngine e).metrics = s.metrics := rfl
@[simp] theorem State.withEngine_fetchMode (s : State) (e : Engine) : (s.withEngine e).fetchMode = s.fetchMode := rfl

/-! ## `State.withFetchWord` -/

@[simp] theorem State.withFetchWord_engine (s : State) (nbits w : Nat) :
    (s.withFetchWord nbits w).engine = .reference := rfl
@[simp] theorem State.withFetchWord_cfg (s : State) (nbits w : Nat) : (s.withFetchWord nbits w).cfg = s.cfg := rfl
@[simp] theorem State.withFetchWord_plat (s : State) (nbits w : Nat) : (s.withFetchWord nbits w).plat = s.plat := rfl
@[simp] theorem State.withFetchWord_regs (s : State) (nbits w : Nat) : (s.withFetchWord nbits w).regs = s.regs := rfl
@[simp] theorem State.withFetchWord_pc (s : State) (nbits w : Nat) : (s.withFetchWord nbits w).pc = s.pc := rfl
@[simp] theorem State.withFetchWord_mem (s : State) (nbits w : Nat) :
    (s.withFetchWord nbits w).mem = s.mem.writeLE s.pc.toNat 4 (w % 2 ^ nbits) := rfl
@[simp] theorem State.withFetchWord_out (s : State) (nbits w : Nat) : (s.withFetchWord nbits w).out = s.out := rfl
@[simp] theorem State.withFetchWord_status (s : State) (nbits w : Nat) :
    (s.withFetchWord nbits w).status = s.status := rfl
@[simp] theorem State.withFetchWord_ifid (s : State) (nbits w : Nat) : (s.withFetchWord nbits w).ifid = s.ifid := rfl
@[simp] theorem State.withFetchWord_idex (s : State) (nbits w : Nat) : (s.withFetchWord nbits w).idex = s.idex := rfl
@[simp] theorem State.withFetchWord_exmem (s : State) (nbits w : Nat) :
    (s.withFetchWord nbits w).exmem = s.exmem := rfl
@[simp] theorem State.withFetchWord_memwb (s : State) (nbits w : Nat) :
    (s.withFetchWord nbits w).memwb = s.memwb := rfl
@[simp] theorem State.withFetchWord_counters (s : State) (nbits w : Nat) :
    (s.withFetchWord nbits w).counters = s.counters := rfl
@[simp] theorem State.withFetchWord_ghr (s : State) (nbits w : Nat) : (s.withFetchWord nbits w).ghr = s.ghr := rfl
@[simp] theorem State.withFetchWord_rasStack (s : State) (nbits w : Nat) :
    (s.withFetchWord nbits w).rasStack = s.rasStack := rfl
@[simp] theorem State.withFetchWord_metrics (s : State) (nbits w : Nat) :
    (s.withFetchWord nbits w).metrics = s.metrics := rfl
@[simp] theorem State.withFetchWord_fetchMode (s : State) (nbits w : Nat) :
    (s.withFetchWord nbits w).fetchMode = s.fetchMode := rfl

/-! ## Latches -/

@[simp] theorem Latch.withLanes_lanes (l : Latch) (x : Lanes) : (l.withLanes x).lanes = x := rfl
@[simp] theorem Latch.withLanes_isStalled (l : Latch) (x : Lanes) : (l.withLanes x).isStalled = l.isStalled := rfl
@[simp] theorem Latch.cleared_lanes (l : Latch) : l.cleared.lanes = bubbles l.lanes.length := rfl
@[simp] theorem Latch.cleared_isStalled (l : Latch) : l.cleared.isStalled = l.isStalled := rfl
@[simp] theorem Latch.empty_lanes (n : Nat) : (Latch.empty n).lanes = bubbles n := rfl
@[simp] theorem Latch.empty_isStalled (n : Nat) : (Latch.empty n).isStalled = false := rfl
@[simp] theorem bubbles_length (n : Nat) : (bubbles n).length = n := by simp [bubbles]
@[simp] theorem bubbles_zero : bubbles 0 = [] := rfl
@[simp] theorem bubbles_succ (n : Nat) : bubbles (n + 1) = none :: bubbles n := rfl

/-! ## Micro-ops -/

@[simp] theorem MicroOp.flag_of_none (u : MicroOp) (f : Decoded → Bool) (h : u.dec = none) : u.flag f = false := by
  simp [MicroOp.flag, h]
@[simp] theorem MicroOp.flag_of_some (u : MicroOp) (f : Decoded → Bool) (d : Decoded) (h : u.dec = some d) :
    u.flag f = f d := by
  simp [MicroOp.flag, h]
theorem MicroOp.clean_iff (u : MicroOp) : u.clean = true ↔ u.fault = none := by simp [MicroOp.clean]

end Sys2Proof.Machine
end

