-- ==== Sys2Proof/Laws/Registers.lean ====
section
/-!
SUPPORT. The laws of the register file: x0 reads as 0 whatever is written (spec/10_state.md R18), and a read after a
write.
-/

namespace Sys2Proof.Machine

@[simp] theorem State.reg_zero (s : State) : s.reg 0 = 0 := by simp [State.reg]

/-- A read depends on the register file alone. -/
theorem State.reg_congr {s t : State} (h : t.regs = s.regs) (r : Reg) : t.reg r = s.reg r := by
  simp [State.reg, h]

@[simp] theorem writeRegs_zero (regs : Vector Word 32) (v : Word) : writeRegs regs 0 v = regs := by simp [writeRegs]

/-- A read after a write of rd. -/
theorem State.reg_of_writeRegs {s t : State} {rd : Reg} {v : Word} (h : t.regs = writeRegs s.regs rd v) (r : Reg) :
    t.reg r = if r = rd ∧ r ≠ 0 then v else s.reg r := by
  unfold State.reg
  rw [h]
  by_cases hr : r = 0
  · rw [if_pos hr, if_pos hr, if_neg fun hc => hc.2 hr]
  · rw [if_neg hr, if_neg hr]
    by_cases hd : rd = 0
    · subst hd
      rw [writeRegs_zero, if_neg fun hc => hr hc.1]
    · rw [writeRegs, if_neg hd]
      by_cases he : r = rd
      · subst he
        rw [if_pos ⟨rfl, hr⟩]
        exact Vector.getElem_set_self _
      · rw [if_neg fun hc => he hc.1]
        exact Vector.getElem_set_ne _ _ fun hc => he (BitVec.eq_of_toNat_eq hc.symm)

@[simp] theorem State.setReg_reg (s : State) (rd : Reg) (v : Word) (r : Reg) :
    (s.setReg rd v).reg r = if r = rd ∧ r ≠ 0 then v else s.reg r := State.reg_of_writeRegs rfl r

@[simp] theorem State.setPc_reg (s : State) (a : Word) (r : Reg) : (s.setPc a).reg r = s.reg r := rfl
@[simp] theorem State.setStatus_reg (s : State) (st : Status) (r : Reg) : (s.setStatus st).reg r = s.reg r := rfl
@[simp] theorem State.raise_reg (s : State) (e : RunError) (r : Reg) : (s.raise e).reg r = s.reg r := rfl
@[simp] theorem State.memWrite_reg (s : State) (a : Word) (n : Nat) (v : Word) (bus : MemoryBus) (r : Reg) :
    (s.memWrite a n v bus).reg r = s.reg r := rfl
@[simp] theorem State.count_reg (s : State) (f : Metrics → Metrics) (r : Reg) : (s.count f).reg r = s.reg r := rfl
@[simp] theorem State.clearFront_reg (s : State) (r : Reg) : s.clearFront.reg r = s.reg r := rfl

/-- The slot of x0 stays as it is under a write. -/
theorem writeRegs_slot_zero (regs : Vector Word 32) (rd : Reg) (v : Word) : (writeRegs regs rd v)[0] = regs[0] := by
  by_cases hd : rd = 0
  · rw [hd, writeRegs_zero]
  · rw [writeRegs, if_neg hd]
    exact Vector.getElem_set_ne _ _ fun h => hd (BitVec.eq_of_toNat_eq h)

/-- The slot of x0 stays as it is under the host's writes. -/
theorem applyRegWrites_slot_zero (l : List (Reg × Word)) (regs : Vector Word 32) :
    (applyRegWrites regs l)[0] = regs[0] := by
  induction l generalizing regs with
  | nil => rfl
  | cons p rest ih => rw [applyRegWrites, ih, writeRegs_slot_zero]

end Sys2Proof.Machine
end

