-- ==== Sys2Proof/Laws/Forms.lean ====
section
/-!
SUPPORT. One lemma for each instruction form (Machine/Forms.lean) that says once everything the form can do, in the
terms of Safety.lean.
-/

namespace Sys2Proof.Machine

theorem SameMachine.refl (s : State) : SameMachine s s :=
  ⟨rfl, rfl, rfl, rfl, rfl, rfl, rfl, rfl, rfl, rfl, rfl, rfl⟩

/-- The address after an instruction, as a number. -/
theorem isMod64_pcAfter (s : State) (len : Len) : isMod64 (s.pc.toNat + len.bytes) (s.pcAfter len) := by
  cases len <;> simp [isMod64, State.pcAfter, Len.word, Len.bytes, BitVec.toNat_add]

/-- A sum of a value and a 64-bit offset, as a number. -/
theorem isMod64_add_ofInt (a : Word) (n : Int) : isMod64 (a.toNat + n) (a + BitVec.ofInt 64 n) := by
  simp [isMod64, BitVec.toNat_add, BitVec.toNat_ofInt]
  omega

theorem finishReg_writesReg {s : State} {rd : Reg} {v : Word} {len : Len} {value next : Word → Prop} (hv : value v)
    (hn : next (s.pcAfter len)) : WritesReg s (finishReg rd v len s) rd value next :=
  ⟨_, v, rfl, hv, fun r => by simp, hn, fun _ => rfl, rfl, rfl, ⟨rfl, rfl, rfl, rfl, rfl, rfl, rfl, rfl, rfl, rfl, rfl, rfl⟩⟩

theorem finishNone_onlyMovesPc {s : State} {len : Len} {next : Word → Prop} (hn : next (s.pcAfter len)) :
    OnlyMovesPc s (finishNone len s) next :=
  ⟨_, rfl, hn, fun _ => rfl, fun _ => rfl, rfl, rfl, ⟨rfl, rfl, rfl, rfl, rfl, rfl, rfl, rfl, rfl, rfl, rfl, rfl⟩⟩

theorem finishBranch_onlyMovesPc {s : State} {taken : Bool} {offset : Word} {len : Len} {next : Word → Prop}
    (hn : next (if taken then s.pc + offset else s.pcAfter len)) :
    OnlyMovesPc s (finishBranch taken offset len s) next :=
  ⟨_, rfl, hn, fun _ => rfl, fun _ => rfl, rfl, rfl, ⟨rfl, rfl, rfl, rfl, rfl, rfl, rfl, rfl, rfl, rfl, rfl, rfl⟩⟩

theorem finishJump_writesReg {s : State} {rd : Reg} {target : Word} {len : Len} {value next : Word → Prop}
    (hv : value (s.pcAfter len)) (hn : next target) : WritesReg s (finishJump rd target len s) rd value next :=
  ⟨_, _, rfl, hv, fun r => by simp, hn, fun _ => rfl, rfl, rfl, ⟨rfl, rfl, rfl, rfl, rfl, rfl, rfl, rfl, rfl, rfl, rfl, rfl⟩⟩

theorem endsRun_setStatus (s : State) (st : Status) : EndsRun s (.next (s.setStatus st)) st :=
  ⟨_, rfl, rfl, rfl, fun _ => rfl, fun _ => rfl, rfl, ⟨rfl, rfl, rfl, rfl, rfl, rfl, rfl, rfl, rfl, rfl, rfl, rfl⟩⟩

theorem finishBreak_endsRun (s : State) : EndsRun s (finishBreak s) (.halted .ebreak) := endsRun_setStatus s _

theorem finishLoad_in_range {s : State} {n : Nat} {sg : Bool} {rd : Reg} {a : Word} {len : Len}
    (h : s.inRange a n = true) :
    finishLoad n sg rd a len s = finishReg rd (extendLoad n sg (s.memRead a n)) len s := by simp [finishLoad, h]

theorem finishLoad_out_of_range {s : State} {n : Nat} {sg : Bool} {rd : Reg} {a : Word} {len : Len}
    (h : s.inRange a n = false) : EndsRun s (finishLoad n sg rd a len s) (.error (.memoryFault s.pc a)) := by
  rw [finishLoad, if_neg (by simp [h])]
  exact endsRun_setStatus s _

theorem finishStore_out_of_range {s : State} {n : Nat} {v a : Word} {len : Len} (h : s.inRange a n = false) :
    EndsRun s (finishStore n v a len s) (.error (.memoryFault s.pc a)) := by
  rw [finishStore, if_neg (by simp [h])]
  exact endsRun_setStatus s _

/-- The byte at offset `i` of a value, as a field and as a quotient. -/
theorem byte_of_word (v : Word) (i : Nat) : BitVec.ofNat 8 (v.toNat / 256 ^ i) = v.extractLsb' (8 * i) 8 := by
  apply BitVec.eq_of_toNat_eq
  simp only [BitVec.toNat_ofNat, BitVec.extractLsb'_toNat, Nat.shiftRight_eq_div_pow]
  rw [show (256 : Nat) = 2 ^ 8 from rfl, ← pow_mul]

theorem finishStore_storesBytes {s : State} {n : Nat} {v a : Word} {len : Len} {next : Word → Prop} (hw : s.mem.wf)
    (h : s.inRange a n = true) (hn : next (s.pcAfter len)) : StoresBytes s (finishStore n v a len s) a n v next := by
  rw [finishStore, if_pos h]
  refine ⟨_, rfl, fun i hi => ?_, fun b hb => ?_, fun _ => rfl, hn, rfl, rfl,
    ⟨rfl, rfl, rfl, rfl, rfl, rfl, rfl, rfl, rfl, rfl, rfl, rfl⟩⟩
  · rw [State.setPc_mem, State.memWrite_mem, Memory.byte_writeLE hw, if_pos (by omega), Nat.add_sub_cancel_left,
      byte_of_word]
  · rw [State.setPc_mem, State.memWrite_mem, Memory.byte_writeLE hw, if_neg (by omega)]

/-! ## The host -/

theorem State.hostCall_continue {s : State} {pc : Word} (h : s.hostReply.verdict = .continue) :
    s.hostCall pc = s.applyReply s.hostReply := by simp [State.hostCall, h]

theorem State.hostCall_exit {s : State} {pc : Word} (h : s.hostReply.verdict = .exit) :
    s.hostCall pc = (s.applyReply s.hostReply).setStatus (.halted .exit) := by simp [State.hostCall, h]

theorem State.hostCall_fault {s : State} {pc addr : Word} (h : s.hostReply.verdict = .fault addr) :
    s.hostCall pc = s.raise (.memoryFault pc addr) := by simp [State.hostCall, h]

theorem State.hostCall_refuse {s : State} {pc : Word} (h : s.hostReply.verdict = .refuse) :
    s.hostCall pc = s.setStatus (.refused (.hostService pc)) := by simp [State.hostCall, h]

/-- ECALL: after a `Continue` the next instruction, otherwise pc stays (R200). -/
theorem finishCall_eq (s : State) (len : Len) :
    finishCall len s = .next
      (if s.hostReply.verdict = .continue then (s.hostCall s.pc).setPc (s.pcAfter len) else s.hostCall s.pc) := by
  unfold finishCall
  cases h : s.hostReply.verdict <;> simp

/-- Whatever the verdict, an ECALL touches only registers, memory, the output stream and the status. -/
theorem State.hostCall_sameMachine (s : State) (pc : Word) : SameMachine s (s.hostCall pc) := by
  unfold State.hostCall
  cases s.hostReply.verdict <;> exact ⟨rfl, rfl, rfl, rfl, rfl, rfl, rfl, rfl, rfl, rfl, rfl, rfl⟩

theorem State.hostCall_pc (s : State) (pc : Word) : (s.hostCall pc).pc = s.pc := by
  unfold State.hostCall
  cases s.hostReply.verdict <;> rfl

end Sys2Proof.Machine
end

