-- ==== Sys2Proof/Laws/PerInstr.lean ====
section
/-!
SUPPORT. Statements about each instruction as syntax, one lemma per constructor. The family `LowBitsGiveLength`: the low
two bits of an instruction's encoding are 11 exactly when the instruction is 32 bits wide (spec/30_encoding.md R57, R58,
R63).
-/

namespace Sys2Proof.Laws.LowBitsGiveLength

/-- The low two bits of the encoding are 11 exactly for a 32-bit instruction. -/
def Statement (i : Instr) : Prop := (encode i).extractLsb' 0 2 = 3#2 ↔ lenOf i = .four

/-- The low two bits of a word, from its major opcode. -/
theorem of_opcode {i : Instr} {op : BitVec 7} (h : opcodeOf (encode i) = op) (h3 : op.extractLsb' 0 2 = 3#2)
    (hl : lenOf i = .four) : Statement i := by
  have : (encode i).extractLsb' 0 2 = op.extractLsb' 0 2 := by
    rw [← h, opcodeOf]
    ext k hk
    simp only [BitVec.getElem_extractLsb', BitVec.getLsbD_extractLsb', Nat.zero_add]
    rw [decide_eq_true (by omega : k < 7), Bool.true_and]
  simp [Statement, this, h3, hl]

/-- The low two bits of a parcel are its quadrant. -/
theorem of_quadrant {i : Instr} {h : Parcel} {q : BitVec 2} (he : encode i = h.setWidth 32) (hq : quadrantOf h = q)
    (h3 : q ≠ 3#2) (hl : lenOf i = .two) : Statement i := by
  have : (encode i).extractLsb' 0 2 = q := by
    rw [he, extractLsb'_setWidth _ _ _ (by decide) (by decide)]
    exact hq
  simp [Statement, this, h3, hl]

theorem lui (rd : Reg) (imm20 : BitVec 20) : Statement (.lui rd imm20) :=
  of_opcode (opcodeOf_encU ..) (by decide) rfl
theorem auipc (rd : Reg) (imm20 : BitVec 20) : Statement (.auipc rd imm20) :=
  of_opcode (opcodeOf_encU ..) (by decide) rfl
theorem addi (rd rs1 : Reg) (imm : BitVec 12) : Statement (.addi rd rs1 imm) :=
  of_opcode (opcodeOf_encI ..) (by decide) rfl
theorem slti (rd rs1 : Reg) (imm : BitVec 12) : Statement (.slti rd rs1 imm) :=
  of_opcode (opcodeOf_encI ..) (by decide) rfl
theorem sltiu (rd rs1 : Reg) (imm : BitVec 12) : Statement (.sltiu rd rs1 imm) :=
  of_opcode (opcodeOf_encI ..) (by decide) rfl
theorem xori (rd rs1 : Reg) (imm : BitVec 12) : Statement (.xori rd rs1 imm) :=
  of_opcode (opcodeOf_encI ..) (by decide) rfl
theorem ori (rd rs1 : Reg) (imm : BitVec 12) : Statement (.ori rd rs1 imm) :=
  of_opcode (opcodeOf_encI ..) (by decide) rfl
theorem andi (rd rs1 : Reg) (imm : BitVec 12) : Statement (.andi rd rs1 imm) :=
  of_opcode (opcodeOf_encI ..) (by decide) rfl
theorem slli (rd rs1 : Reg) (shamt : BitVec 6) : Statement (.slli rd rs1 shamt) :=
  of_opcode (opcodeOf_encShift64 ..) (by decide) rfl
theorem srli (rd rs1 : Reg) (shamt : BitVec 6) : Statement (.srli rd rs1 shamt) :=
  of_opcode (opcodeOf_encShift64 ..) (by decide) rfl
theorem srai (rd rs1 : Reg) (shamt : BitVec 6) : Statement (.srai rd rs1 shamt) :=
  of_opcode (opcodeOf_encShift64 ..) (by decide) rfl
theorem add (rd rs1 rs2 : Reg) : Statement (.add rd rs1 rs2) := of_opcode (opcodeOf_encR ..) (by decide) rfl
theorem sub (rd rs1 rs2 : Reg) : Statement (.sub rd rs1 rs2) := of_opcode (opcodeOf_encR ..) (by decide) rfl
theorem sll (rd rs1 rs2 : Reg) : Statement (.sll rd rs1 rs2) := of_opcode (opcodeOf_encR ..) (by decide) rfl
theorem slt (rd rs1 rs2 : Reg) : Statement (.slt rd rs1 rs2) := of_opcode (opcodeOf_encR ..) (by decide) rfl
theorem sltu (rd rs1 rs2 : Reg) : Statement (.sltu rd rs1 rs2) := of_opcode (opcodeOf_encR ..) (by decide) rfl
theorem xor (rd rs1 rs2 : Reg) : Statement (.xor rd rs1 rs2) := of_opcode (opcodeOf_encR ..) (by decide) rfl
theorem srl (rd rs1 rs2 : Reg) : Statement (.srl rd rs1 rs2) := of_opcode (opcodeOf_encR ..) (by decide) rfl
theorem sra (rd rs1 rs2 : Reg) : Statement (.sra rd rs1 rs2) := of_opcode (opcodeOf_encR ..) (by decide) rfl
theorem or (rd rs1 rs2 : Reg) : Statement (.or rd rs1 rs2) := of_opcode (opcodeOf_encR ..) (by decide) rfl
theorem and (rd rs1 rs2 : Reg) : Statement (.and rd rs1 rs2) := of_opcode (opcodeOf_encR ..) (by decide) rfl
theorem addiw (rd rs1 : Reg) (imm : BitVec 12) : Statement (.addiw rd rs1 imm) :=
  of_opcode (opcodeOf_encI ..) (by decide) rfl
theorem slliw (rd rs1 : Reg) (shamt : BitVec 5) : Statement (.slliw rd rs1 shamt) :=
  of_opcode (opcodeOf_encR ..) (by decide) rfl
theorem srliw (rd rs1 : Reg) (shamt : BitVec 5) : Statement (.srliw rd rs1 shamt) :=
  of_opcode (opcodeOf_encR ..) (by decide) rfl
theorem sraiw (rd rs1 : Reg) (shamt : BitVec 5) : Statement (.sraiw rd rs1 shamt) :=
  of_opcode (opcodeOf_encR ..) (by decide) rfl
theorem addw (rd rs1 rs2 : Reg) : Statement (.addw rd rs1 rs2) := of_opcode (opcodeOf_encR ..) (by decide) rfl
theorem subw (rd rs1 rs2 : Reg) : Statement (.subw rd rs1 rs2) := of_opcode (opcodeOf_encR ..) (by decide) rfl
theorem sllw (rd rs1 rs2 : Reg) : Statement (.sllw rd rs1 rs2) := of_opcode (opcodeOf_encR ..) (by decide) rfl
theorem srlw (rd rs1 rs2 : Reg) : Statement (.srlw rd rs1 rs2) := of_opcode (opcodeOf_encR ..) (by decide) rfl
theorem sraw (rd rs1 rs2 : Reg) : Statement (.sraw rd rs1 rs2) := of_opcode (opcodeOf_encR ..) (by decide) rfl
theorem mul (rd rs1 rs2 : Reg) : Statement (.mul rd rs1 rs2) := of_opcode (opcodeOf_encR ..) (by decide) rfl
theorem mulh (rd rs1 rs2 : Reg) : Statement (.mulh rd rs1 rs2) := of_opcode (opcodeOf_encR ..) (by decide) rfl
theorem mulhsu (rd rs1 rs2 : Reg) : Statement (.mulhsu rd rs1 rs2) := of_opcode (opcodeOf_encR ..) (by decide) rfl
theorem mulhu (rd rs1 rs2 : Reg) : Statement (.mulhu rd rs1 rs2) := of_opcode (opcodeOf_encR ..) (by decide) rfl
theorem div (rd rs1 rs2 : Reg) : Statement (.div rd rs1 rs2) := of_opcode (opcodeOf_encR ..) (by decide) rfl
theorem divu (rd rs1 rs2 : Reg) : Statement (.divu rd rs1 rs2) := of_opcode (opcodeOf_encR ..) (by decide) rfl
theorem rem (rd rs1 rs2 : Reg) : Statement (.rem rd rs1 rs2) := of_opcode (opcodeOf_encR ..) (by decide) rfl
theorem remu (rd rs1 rs2 : Reg) : Statement (.remu rd rs1 rs2) := of_opcode (opcodeOf_encR ..) (by decide) rfl
theorem mulw (rd rs1 rs2 : Reg) : Statement (.mulw rd rs1 rs2) := of_opcode (opcodeOf_encR ..) (by decide) rfl
theorem divw (rd rs1 rs2 : Reg) : Statement (.divw rd rs1 rs2) := of_opcode (opcodeOf_encR ..) (by decide) rfl
theorem divuw (rd rs1 rs2 : Reg) : Statement (.divuw rd rs1 rs2) := of_opcode (opcodeOf_encR ..) (by decide) rfl
theorem remw (rd rs1 rs2 : Reg) : Statement (.remw rd rs1 rs2) := of_opcode (opcodeOf_encR ..) (by decide) rfl
theorem remuw (rd rs1 rs2 : Reg) : Statement (.remuw rd rs1 rs2) := of_opcode (opcodeOf_encR ..) (by decide) rfl
theorem jal (rd : Reg) (offset : BitVec 21) : Statement (.jal rd offset) :=
  of_opcode (opcodeOf_encJ ..) (by decide) rfl
theorem jalr (rd rs1 : Reg) (imm : BitVec 12) : Statement (.jalr rd rs1 imm) :=
  of_opcode (opcodeOf_encI ..) (by decide) rfl
theorem beq (rs1 rs2 : Reg) (offset : BitVec 13) : Statement (.beq rs1 rs2 offset) :=
  of_opcode (opcodeOf_encB ..) (by decide) rfl
theorem bne (rs1 rs2 : Reg) (offset : BitVec 13) : Statement (.bne rs1 rs2 offset) :=
  of_opcode (opcodeOf_encB ..) (by decide) rfl
theorem blt (rs1 rs2 : Reg) (offset : BitVec 13) : Statement (.blt rs1 rs2 offset) :=
  of_opcode (opcodeOf_encB ..) (by decide) rfl
theorem bge (rs1 rs2 : Reg) (offset : BitVec 13) : Statement (.bge rs1 rs2 offset) :=
  of_opcode (opcodeOf_encB ..) (by decide) rfl
theorem bltu (rs1 rs2 : Reg) (offset : BitVec 13) : Statement (.bltu rs1 rs2 offset) :=
  of_opcode (opcodeOf_encB ..) (by decide) rfl
theorem bgeu (rs1 rs2 : Reg) (offset : BitVec 13) : Statement (.bgeu rs1 rs2 offset) :=
  of_opcode (opcodeOf_encB ..) (by decide) rfl
theorem lb (rd rs1 : Reg) (imm : BitVec 12) : Statement (.lb rd rs1 imm) :=
  of_opcode (opcodeOf_encI ..) (by decide) rfl
theorem lh (rd rs1 : Reg) (imm : BitVec 12) : Statement (.lh rd rs1 imm) :=
  of_opcode (opcodeOf_encI ..) (by decide) rfl
theorem lw (rd rs1 : Reg) (imm : BitVec 12) : Statement (.lw rd rs1 imm) :=
  of_opcode (opcodeOf_encI ..) (by decide) rfl
theorem ld (rd rs1 : Reg) (imm : BitVec 12) : Statement (.ld rd rs1 imm) :=
  of_opcode (opcodeOf_encI ..) (by decide) rfl
theorem lbu (rd rs1 : Reg) (imm : BitVec 12) : Statement (.lbu rd rs1 imm) :=
  of_opcode (opcodeOf_encI ..) (by decide) rfl
theorem lhu (rd rs1 : Reg) (imm : BitVec 12) : Statement (.lhu rd rs1 imm) :=
  of_opcode (opcodeOf_encI ..) (by decide) rfl
theorem lwu (rd rs1 : Reg) (imm : BitVec 12) : Statement (.lwu rd rs1 imm) :=
  of_opcode (opcodeOf_encI ..) (by decide) rfl
theorem sb (rs2 rs1 : Reg) (imm : BitVec 12) : Statement (.sb rs2 rs1 imm) :=
  of_opcode (opcodeOf_encS ..) (by decide) rfl
theorem sh (rs2 rs1 : Reg) (imm : BitVec 12) : Statement (.sh rs2 rs1 imm) :=
  of_opcode (opcodeOf_encS ..) (by decide) rfl
theorem sw (rs2 rs1 : Reg) (imm : BitVec 12) : Statement (.sw rs2 rs1 imm) :=
  of_opcode (opcodeOf_encS ..) (by decide) rfl
theorem sd (rs2 rs1 : Reg) (imm : BitVec 12) : Statement (.sd rs2 rs1 imm) :=
  of_opcode (opcodeOf_encS ..) (by decide) rfl
theorem fence (fm pred succ : BitVec 4) (rs1 rd : Reg) : Statement (.fence fm pred succ rs1 rd) :=
  of_opcode (opcodeOf_encI ..) (by decide) rfl
theorem fenceI (imm : BitVec 12) (rs1 rd : Reg) : Statement (.fenceI imm rs1 rd) :=
  of_opcode (opcodeOf_encI ..) (by decide) rfl
theorem ecall : Statement (.ecall) := by unfold Statement; decide
theorem ebreak : Statement (.ebreak) := by unfold Statement; decide
theorem cAddi4spn (rdp : CReg) (nzuimm : BitVec 10) : Statement (.cAddi4spn rdp nzuimm) :=
  of_quadrant rfl (quadrantOf_encCiw ..) (by decide) rfl
theorem cLw (rdp rs1p : CReg) (uimm : BitVec 7) : Statement (.cLw rdp rs1p uimm) :=
  of_quadrant rfl (quadrantOf_encCl ..) (by decide) rfl
theorem cLd (rdp rs1p : CReg) (uimm : BitVec 8) : Statement (.cLd rdp rs1p uimm) :=
  of_quadrant rfl (quadrantOf_encCl ..) (by decide) rfl
theorem cSw (rs2p rs1p : CReg) (uimm : BitVec 7) : Statement (.cSw rs2p rs1p uimm) :=
  of_quadrant rfl (quadrantOf_encCl ..) (by decide) rfl
theorem cSd (rs2p rs1p : CReg) (uimm : BitVec 8) : Statement (.cSd rs2p rs1p uimm) :=
  of_quadrant rfl (quadrantOf_encCl ..) (by decide) rfl
theorem cNop (imm : BitVec 6) : Statement (.cNop imm) := of_quadrant rfl (quadrantOf_encCi ..) (by decide) rfl
theorem cAddi (rd : Reg) (imm : BitVec 6) : Statement (.cAddi rd imm) :=
  of_quadrant rfl (quadrantOf_encCi ..) (by decide) rfl
theorem cAddiw (rd : Reg) (imm : BitVec 6) : Statement (.cAddiw rd imm) :=
  of_quadrant rfl (quadrantOf_encCi ..) (by decide) rfl
theorem cLi (rd : Reg) (imm : BitVec 6) : Statement (.cLi rd imm) :=
  of_quadrant rfl (quadrantOf_encCi ..) (by decide) rfl
theorem cAddi16sp (nzimm : BitVec 10) : Statement (.cAddi16sp nzimm) :=
  of_quadrant rfl (quadrantOf_encCi ..) (by decide) rfl
theorem cLui (rd : Reg) (nzimm : BitVec 18) : Statement (.cLui rd nzimm) :=
  of_quadrant rfl (quadrantOf_encCi ..) (by decide) rfl
theorem cSrli (rdp : CReg) (shamt : BitVec 6) : Statement (.cSrli rdp shamt) :=
  of_quadrant rfl (quadrantOf_encCbAlu ..) (by decide) rfl
theorem cSrai (rdp : CReg) (shamt : BitVec 6) : Statement (.cSrai rdp shamt) :=
  of_quadrant rfl (quadrantOf_encCbAlu ..) (by decide) rfl
theorem cAndi (rdp : CReg) (imm : BitVec 6) : Statement (.cAndi rdp imm) :=
  of_quadrant rfl (quadrantOf_encCbAlu ..) (by decide) rfl
theorem cSub (rdp rs2p : CReg) : Statement (.cSub rdp rs2p) := of_quadrant rfl (quadrantOf_encCa ..) (by decide) rfl
theorem cXor (rdp rs2p : CReg) : Statement (.cXor rdp rs2p) := of_quadrant rfl (quadrantOf_encCa ..) (by decide) rfl
theorem cOr (rdp rs2p : CReg) : Statement (.cOr rdp rs2p) := of_quadrant rfl (quadrantOf_encCa ..) (by decide) rfl
theorem cAnd (rdp rs2p : CReg) : Statement (.cAnd rdp rs2p) := of_quadrant rfl (quadrantOf_encCa ..) (by decide) rfl
theorem cSubw (rdp rs2p : CReg) : Statement (.cSubw rdp rs2p) :=
  of_quadrant rfl (quadrantOf_encCa ..) (by decide) rfl
theorem cAddw (rdp rs2p : CReg) : Statement (.cAddw rdp rs2p) :=
  of_quadrant rfl (quadrantOf_encCa ..) (by decide) rfl
theorem cJ (offset : BitVec 12) : Statement (.cJ offset) := of_quadrant rfl (quadrantOf_encCj ..) (by decide) rfl
theorem cBeqz (rs1p : CReg) (offset : BitVec 9) : Statement (.cBeqz rs1p offset) :=
  of_quadrant rfl (quadrantOf_encCb ..) (by decide) rfl
theorem cBnez (rs1p : CReg) (offset : BitVec 9) : Statement (.cBnez rs1p offset) :=
  of_quadrant rfl (quadrantOf_encCb ..) (by decide) rfl
theorem cSlli (rd : Reg) (shamt : BitVec 6) : Statement (.cSlli rd shamt) :=
  of_quadrant rfl (quadrantOf_encCi ..) (by decide) rfl
theorem cLwsp (rd : Reg) (uimm : BitVec 8) : Statement (.cLwsp rd uimm) :=
  of_quadrant rfl (quadrantOf_encCi ..) (by decide) rfl
theorem cLdsp (rd : Reg) (uimm : BitVec 9) : Statement (.cLdsp rd uimm) :=
  of_quadrant rfl (quadrantOf_encCi ..) (by decide) rfl
theorem cJr (rs1 : Reg) : Statement (.cJr rs1) := of_quadrant rfl (quadrantOf_encCr ..) (by decide) rfl
theorem cMv (rd rs2 : Reg) : Statement (.cMv rd rs2) := of_quadrant rfl (quadrantOf_encCr ..) (by decide) rfl
theorem cEbreak : Statement (.cEbreak) := by unfold Statement; decide
theorem cJalr (rs1 : Reg) : Statement (.cJalr rs1) := of_quadrant rfl (quadrantOf_encCr ..) (by decide) rfl
theorem cAdd (rd rs2 : Reg) : Statement (.cAdd rd rs2) := of_quadrant rfl (quadrantOf_encCr ..) (by decide) rfl
theorem cSwsp (rs2 : Reg) (uimm : BitVec 8) : Statement (.cSwsp rs2 uimm) :=
  of_quadrant rfl (quadrantOf_encCss ..) (by decide) rfl
theorem cSdsp (rs2 : Reg) (uimm : BitVec 9) : Statement (.cSdsp rs2 uimm) :=
  of_quadrant rfl (quadrantOf_encCss ..) (by decide) rfl

end Sys2Proof.Laws.LowBitsGiveLength
end

