-- ==== Sys2Proof/Laws/Pipeline.lean ====
section
/-!
SUPPORT. What a step, a turn, a cycle and each stage can do, said once: the cases of `step`, `pipelineTurn`, `cycle`
and `retireOp`, the fields each stage leaves alone, and the widths of the lanes it makes.
-/

namespace Sys2Proof.Machine

/-! ## The step -/

/-- Everything a step that answers a next state can do. -/
theorem step_cases {s t : State} (h : step s = .next t) :
    configError s.cfg s.plat = none ∧
      ((s.status ≠ .running ∧ t = s) ∨
        (s.status = .running ∧ s.engine = .pipeline ∧ t = s.pipelineTurn) ∨
        (s.status = .running ∧ s.engine = .reference ∧ s.referenceStep = .next t)) := by
  unfold step at h
  split at h
  · cases h
  · rename_i hc
    refine ⟨hc, ?_⟩
    split_ifs at h with hr
    · split at h
      · rename_i he
        exact .inr (.inl ⟨hr, he, by injection h with h; exact h.symm⟩)
      · rename_i he
        exact .inr (.inr ⟨hr, he, h⟩)
    · exact .inl ⟨hr, by injection h with h; exact h.symm⟩

/-- Everything a step of the sequential reference can do. -/
theorem State.referenceStep_cases (s : State) :
    (s.fetchWord s.pc = none ∧ s.referenceStep = .next (s.raise (.fetchFault s.pc))) ∨
      (∃ len word e, s.fetchWord s.pc = some (len, word) ∧ decode word len = .error e ∧
        s.referenceStep = .next (s.raise (.illegalInstruction s.pc word))) ∨
      (∃ len word i, s.fetchWord s.pc = some (len, word) ∧ decode word len = .ok i ∧ s.referenceStep = exec i s) := by
  unfold State.referenceStep
  rcases hf : s.fetchWord s.pc with _ | ⟨len, word⟩
  · exact .inl ⟨rfl, rfl⟩
  · rcases hd : decode word len with e | i
    · exact .inr (.inl ⟨len, word, e, rfl, hd, by simp [hd]⟩)
    · exact .inr (.inr ⟨len, word, i, rfl, hd, by simp [hd]⟩)

theorem State.cycle_running {s : State} (h : s.beginCycle.writebackStage.status = .running) (units : Units) :
    s.cycle units = s.beginCycle.writebackStage.laterStages units := by simp [State.cycle, h]

theorem State.cycle_ended {s : State} (h : s.beginCycle.writebackStage.status ≠ .running) (units : Units) :
    s.cycle units = s.beginCycle.writebackStage := by simp [State.cycle, h]

/-- Everything a step of the machine with any units can do. -/
theorem stepWith_cases {s t : State} {units : Units} (h : stepWith s units = .next t) :
    configError s.cfg s.plat = none ∧
      ((s.status ≠ .running ∧ t = s) ∨
        (s.status = .running ∧ s.engine = .pipeline ∧ t = s.pipelineTurn units) ∨
        (s.status = .running ∧ s.engine = .reference ∧ t = s.referenceStepWith units)) := by
  unfold stepWith at h
  split at h
  · cases h
  · rename_i hc
    refine ⟨hc, ?_⟩
    split_ifs at h with hr
    · split at h <;> rename_i he <;> injection h with h
      · exact .inr (.inl ⟨hr, he, h.symm⟩)
      · exact .inr (.inr ⟨hr, he, h.symm⟩)
    · injection h with h
      exact .inl ⟨hr, h.symm⟩

/-! ## Writeback -/

theorem State.retireOp_fault {s : State} {u : MicroOp} {e : RunError} (h : u.fault = some e) :
    s.retireOp u = (.done, s.raise e) := by simp [State.retireOp, h]

/-- A micro-op with no error that is not EBREAK, ECALL or FENCE.I commits, and Writeback goes on. -/
theorem State.retireOp_plain {s : State} {u : MicroOp} {d : Decoded} (h : u.fault = none) (hd : u.dec = some d)
    (h1 : d.op ≠ .ebreak) (h2 : d.op ≠ .ecall) (h3 : d.op ≠ .fenceI) :
    s.retireOp u = (.nextLane, (s.commitReg u).countRetired u) := by
  unfold State.retireOp
  rw [h]
  simp only [hd, Option.map_some]
  split <;> simp_all

theorem State.retireOp_ebreak {s : State} {u : MicroOp} {d : Decoded} (h : u.fault = none) (hd : u.dec = some d)
    (ho : d.op = .ebreak) :
    s.retireOp u = (.done, ((s.commitReg u).countRetired u).setStatus (.halted .ebreak)) := by
  simp [State.retireOp, h, hd, ho]

theorem State.retireOp_fenceI {s : State} {u : MicroOp} {d : Decoded} (h : u.fault = none) (hd : u.dec = some d)
    (ho : d.op = .fenceI) : s.retireOp u = (.done, ((s.commitReg u).countRetired u).serialFlush u) := by
  simp [State.retireOp, h, hd, ho]

theorem State.retireOp_ecall {s : State} {u : MicroOp} {d : Decoded} (h : u.fault = none) (hd : u.dec = some d)
    (ho : d.op = .ecall) :
    s.retireOp u = (.done,
      if ((s.commitReg u).countRetired u).hostReply.verdict = .continue
      then (((s.commitReg u).countRetired u).hostCall u.pc).serialFlush u
      else ((s.commitReg u).countRetired u).hostCall u.pc) := by
  unfold State.retireOp
  rw [h]
  simp only [hd, Option.map_some, ho]
  cases hv : ((s.commitReg u).countRetired u).hostReply.verdict <;> simp

/-- The fields a register commit leaves alone: all but the registers. -/
theorem State.commitReg_eq (s : State) (u : MicroOp) : ∃ regs, s.commitReg u = { s with regs := regs } := by
  unfold State.commitReg
  cases u.dec with
  | none => exact ⟨s.regs, rfl⟩
  | some d => by_cases h : d.regWrite <;> simp only [h, if_true] <;> exact ⟨_, rfl⟩

/-- The register file after a commit: x[rd] is written exactly for a register-writing micro-op (R94). -/
theorem State.commitReg_reg (s : State) (u : MicroOp) (r : Reg) :
    (s.commitReg u).reg r =
      if (u.flag fun d => d.regWrite && d.rd == r) = true ∧ r ≠ 0 then u.result else s.reg r := by
  unfold State.commitReg MicroOp.flag
  cases u.dec with
  | none => simp
  | some d =>
    by_cases h : d.regWrite = true
    · simp only [h, if_true, State.setReg_reg, Bool.true_and, beq_iff_eq]
      by_cases hr : r = d.rd
      · simp [hr]
      · have : ¬ d.rd = r := fun h => hr h.symm
        simp [hr, this]
    · simp [h]

/-- What Writeback leaves alone: the configuration, the platform, the engine, the predictor, the stack, the control, and
MEMWB. -/
theorem State.retireOp_keeps (s : State) (u : MicroOp) :
    (s.retireOp u).2.cfg = s.cfg ∧ (s.retireOp u).2.plat = s.plat ∧ (s.retireOp u).2.engine = s.engine ∧
      (s.retireOp u).2.counters = s.counters ∧ (s.retireOp u).2.ghr = s.ghr ∧
      (s.retireOp u).2.rasStack = s.rasStack ∧ (s.retireOp u).2.fetchMode = s.fetchMode ∧
      (s.retireOp u).2.memwb = s.memwb := by
  obtain ⟨regs, hc⟩ := s.commitReg_eq u
  cases hf : u.fault with
  | some e => simp [State.retireOp_fault hf]
  | none =>
    cases hd : u.dec with
    | none => simp [State.retireOp, hf, hd, hc]
    | some d =>
      by_cases h1 : d.op = .ebreak
      · simp [State.retireOp_ebreak hf hd h1, hc]
      · by_cases h2 : d.op = .ecall
        · have hm := ((s.commitReg u).countRetired u).hostCall_sameMachine u.pc
          obtain ⟨m1, m2, m3, -, -, -, m4, m5, m6, m7, -, m8⟩ := hm
          rw [State.retireOp_ecall hf hd h2]
          split_ifs <;> simp [m1, m2, m3, m4, m5, m6, m7, m8] <;> simp [hc]
        · by_cases h3 : d.op = .fenceI
          · simp [State.retireOp_fenceI hf hd h3, hc]
          · simp [State.retireOp_plain hf hd h1 h2 h3, hc]

theorem retireLanes_keeps (l : Lanes) (s : State) :
    (retireLanes l s).cfg = s.cfg ∧ (retireLanes l s).plat = s.plat ∧ (retireLanes l s).engine = s.engine ∧
      (retireLanes l s).counters = s.counters ∧ (retireLanes l s).ghr = s.ghr ∧
      (retireLanes l s).rasStack = s.rasStack ∧ (retireLanes l s).fetchMode = s.fetchMode ∧
      (retireLanes l s).memwb = s.memwb := by
  induction l generalizing s with
  | nil => simp [retireLanes]
  | cons slot rest ih =>
    cases slot with
    | none => exact ih s
    | some u =>
      have hk := s.retireOp_keeps u
      unfold retireLanes
      split
      · rename_i s' he
        rw [he] at hk
        have := ih s'
        simp_all
      · rename_i s' he
        rw [he] at hk
        exact hk

theorem PlainLanes.tail {slot : Option MicroOp} {l : Lanes} (h : PlainLanes (slot :: l)) : PlainLanes l :=
  fun u hu => h u (List.mem_cons_of_mem _ hu)

/-- Plain lanes are committed one after the other, and Writeback goes on behind them. -/
theorem retireLanes_append {pre : Lanes} (h : PlainLanes pre) (rest : Lanes) (s : State) :
    retireLanes (pre ++ rest) s = retireLanes rest (retireLanes pre s) := by
  induction pre generalizing s with
  | nil => rfl
  | cons slot l ih =>
    cases slot with
    | none => exact ih h.tail s
    | some u =>
      obtain ⟨hf, d, hd, h1, h2, h3⟩ := h u (by simp)
      simp only [List.cons_append, retireLanes, State.retireOp_plain hf hd h1 h2 h3]
      exact ih h.tail _

/-! ## Memory -/

/-- What the Memory stage can do to the state: memory, and by a store-snoop flush IDEX, IFID, pc and the metrics. -/
theorem memoryLanes_keeps (l : Lanes) (s : State) (bus : MemoryBus) :
    (memoryLanes l s bus).1.length = l.length ∧
      (memoryLanes l s bus).2.cfg = s.cfg ∧ (memoryLanes l s bus).2.plat = s.plat ∧ (memoryLanes l s bus).2.engine = s.engine ∧
      (memoryLanes l s bus).2.regs = s.regs ∧ (memoryLanes l s bus).2.out = s.out ∧ (memoryLanes l s bus).2.status = s.status ∧
      (memoryLanes l s bus).2.exmem = s.exmem ∧ (memoryLanes l s bus).2.memwb = s.memwb ∧
      (memoryLanes l s bus).2.counters = s.counters ∧ (memoryLanes l s bus).2.ghr = s.ghr ∧
      (memoryLanes l s bus).2.rasStack = s.rasStack ∧ (memoryLanes l s bus).2.fetchMode = s.fetchMode := by
  induction l generalizing s with
  | nil => simp [memoryLanes]
  | cons slot rest ih =>
    cases slot with
    | none =>
      have := ih s
      simp only [memoryLanes, List.length_cons]
      simp_all
    | some u =>
      have h1 := ih s
      have h2 := ih (s.memWrite u.result u.memBytes u.store bus)
      simp only [memoryLanes]
      split_ifs <;> simp_all

/-! ## Execute -/

theorem executeLanes_length (l done : Lanes) (units : Units) :
    (executeLanes done l units).length = done.length + l.length := by
  induction l generalizing done with
  | nil => simp [executeLanes]
  | cons slot rest ih => simp [executeLanes, ih]; omega

/-- The lanes already made stay as they are. -/
theorem executeLanes_prefix (l done : Lanes) (units : Units) : done <+: executeLanes done l units := by
  induction l generalizing done with
  | nil => simp [executeLanes]
  | cons slot rest ih => exact (List.prefix_append _ _).trans (ih _)

/-- An operand source that gives a value is read as that value (R86). -/
theorem operandValue_from {done : Lanes} {src : Source} {v : Word} (h : OperandFrom done src v) :
    operandValue done src = v := by
  rcases h with rfl | ⟨j, q, rfl, hq, rfl⟩
  · rfl
  · simp [operandValue, hq]

/-- What Execute makes of a micro-op with a decoded record and no pending error (R85, R87). -/
theorem executeOp_eq {done : Lanes} {u : MicroOp} {d : Decoded} {a b : Word} (hf : u.fault = none) (hd : u.dec = some d)
    (ha : OperandFrom done u.srcA a) (hb : OperandFrom done u.srcB b) (units : Units) :
    executeOp done u units =
      { u with
        result := (units.compute d.op u.pc u.len d.imm a b).result
        store := (units.compute d.op u.pc u.len d.imm a b).store
        taken := (units.compute d.op u.pc u.len d.imm a b).taken
        target := (units.compute d.op u.pc u.len d.imm a b).target } := by
  simp [executeOp, hf, hd, operandValue_from ha, operandValue_from hb]

theorem executeOp_fault {done : Lanes} {u : MicroOp} (hf : u.fault ≠ none) (units : Units) :
    executeOp done u units = u := by
  unfold executeOp
  split <;> simp_all

/-! ## The ControlHazardUnit -/

theorem State.train_keeps (s : State) (i : Option Nat) (taken : Bool) :
    ∃ c g, s.train i taken = { s with counters := c, ghr := g } := by
  cases i with
  | none => exact ⟨s.counters, s.ghr, rfl⟩
  | some i => exact ⟨_, _, rfl⟩

theorem State.updateRas_keeps (s : State) (u : MicroOp) : ∃ st, s.updateRas u = { s with rasStack := st } := by
  unfold State.updateRas
  split_ifs
  · exact ⟨_, rfl⟩
  · exact ⟨_, rfl⟩
  · exact ⟨s.rasStack, rfl⟩

/-- Resolving a micro-op touches the predictor, the return-address stack and the metrics only. -/
theorem State.resolveControl_keeps (s : State) (u : MicroOp) :
    ∃ c g st m, s.resolveControl u = { s with counters := c, ghr := g, rasStack := st, metrics := m } := by
  have hb : ∃ c g m, s.resolveBranch u = { s with counters := c, ghr := g, metrics := m } := by
    unfold State.resolveBranch
    by_cases hc : u.flag Decoded.isBranch = true
    · rw [if_pos hc]
      generalize hs : (s.count fun m =>
        { m with
          condBranches := m.condBranches + 1
          dirCorrect := if u.dirPred = u.taken then m.dirCorrect + 1 else m.dirCorrect }) = s'
      obtain ⟨c, g, h⟩ := s'.train_keeps u.predIdx u.taken
      exact ⟨c, g, s'.metrics, by rw [h, ← hs]; rfl⟩
    · rw [if_neg hc]
      exact ⟨s.counters, s.ghr, s.metrics, rfl⟩
  obtain ⟨c, g, m, hb⟩ := hb
  unfold State.resolveControl
  split_ifs
  · obtain ⟨st, h⟩ := State.updateRas_keeps (s.resolveBranch u) u
    exact ⟨c, g, st, m, by rw [h, hb]⟩
  · exact ⟨c, g, s.rasStack, m, hb⟩

/-- Resolving a list of slots touches the predictor and the return-address stack only. -/
theorem resolvedBy_keeps (l : Lanes) (s : State) :
    ∃ c g st, resolvedBy l s = { s with counters := c, ghr := g, rasStack := st } := by
  induction l generalizing s with
  | nil => exact ⟨s.counters, s.ghr, s.rasStack, rfl⟩
  | cons slot rest ih =>
    cases slot with
    | none => exact ih s
    | some u =>
      simp only [resolvedBy]
      have hb : ∃ c g, (if u.flag Decoded.isBranch = true then s.train u.predIdx u.taken else s) =
          { s with counters := c, ghr := g } := by
        split_ifs
        · exact s.train_keeps u.predIdx u.taken
        · exact ⟨s.counters, s.ghr, rfl⟩
      obtain ⟨c, g, hb⟩ := hb
      split_ifs at hb ⊢ <;> first | exact ih s | skip
      all_goals
        rw [hb]
        first
        | (obtain ⟨st, hs⟩ := State.updateRas_keeps { s with counters := c, ghr := g } u
           rw [hs]
           obtain ⟨c', g', st', h⟩ := ih { s with counters := c, ghr := g, rasStack := st }
           exact ⟨c', g', st', h⟩)
        | (obtain ⟨c', g', st', h⟩ := ih { s with counters := c, ghr := g }
           exact ⟨c', g', st', h⟩)

/-- What the ControlHazardUnit leaves alone: all architectural state but pc, and MEMWB. -/
theorem hazardLanes_keeps (l : Lanes) (s : State) :
    (hazardLanes l s).1.length = l.length ∧
      (hazardLanes l s).2.cfg = s.cfg ∧ (hazardLanes l s).2.plat = s.plat ∧ (hazardLanes l s).2.engine = s.engine ∧
      (hazardLanes l s).2.regs = s.regs ∧ (hazardLanes l s).2.mem = s.mem ∧ (hazardLanes l s).2.out = s.out ∧
      (hazardLanes l s).2.status = s.status ∧ (hazardLanes l s).2.exmem = s.exmem ∧
      (hazardLanes l s).2.memwb = s.memwb := by
  induction l generalizing s with
  | nil => simp [hazardLanes]
  | cons slot rest ih =>
    cases slot with
    | none =>
      have := ih s
      simp only [hazardLanes, List.length_cons]
      simp_all
    | some u =>
      have h1 := ih s
      have h2 := ih (s.resolveControl u)
      obtain ⟨c, g, st, m, hk⟩ := s.resolveControl_keeps u
      simp only [hazardLanes]
      split_ifs <;> simp_all

/-! ## Decode and Fetch -/

/-- Everything DecodeStage can do (R83): stall, or issue the planned lanes. -/
theorem State.decodeStage_cases (s : State) :
    (s.resolveAll (planLanes s.cfg [] false s.ifid.lanes) = none ∧ s.decodeStage = s.stallDecode) ∨
      ∃ ops, s.resolveAll (planLanes s.cfg [] false s.ifid.lanes) = some ops ∧ s.decodeStage = s.issue ops := by
  unfold State.decodeStage
  cases h : s.resolveAll (planLanes s.cfg [] false s.ifid.lanes) with
  | none => exact .inl ⟨rfl, rfl⟩
  | some ops => exact .inr ⟨ops, rfl, rfl⟩

theorem State.issue_keeps (s : State) (ops : List MicroOp) :
    ∃ pc m, s.issue ops =
      { s with idex := s.idex.withLanes (packLanes s.cfg.width ops), pc := pc, metrics := m } := by
  unfold State.issue
  split
  · exact ⟨_, _, rfl⟩
  · exact ⟨s.pc, s.metrics, rfl⟩

theorem State.decodeStage_keeps (s : State) :
    ∃ idex pc m fm, s.decodeStage = { s with idex := idex, pc := pc, metrics := m, fetchMode := fm } := by
  rcases s.decodeStage_cases with ⟨-, h⟩ | ⟨ops, -, h⟩
  · exact ⟨_, _, _, _, h⟩
  · obtain ⟨pc, m, hi⟩ := s.issue_keeps ops
    exact ⟨_, _, _, s.fetchMode, by rw [h, hi]⟩

theorem State.fetchStage_keeps (s : State) (units : Units) :
    ∃ ifid pc, s.fetchStage units = { s with ifid := ifid, pc := pc } := by
  unfold State.fetchStage
  split
  · exact ⟨_, s.pc, rfl⟩
  · exact ⟨_, s.pc, rfl⟩
  · exact ⟨(s.fetchRun units).ifid, (s.fetchRun units).pc, rfl⟩

theorem planLanes_length (c : Config) (older : List MicroOp) (f : Bool) (l : Lanes) :
    (planLanes c older f l).length ≤ l.length := by
  induction l generalizing older f with
  | nil => simp [planLanes]
  | cons slot rest ih =>
    cases slot with
    | none => simp [planLanes]
    | some u =>
      simp only [planLanes]
      split_ifs
      · simp
      · simpa using ih _ _

theorem fetchLanes_length (s : State) (window lanes : Nat) (a : Word) (used : Nat) (units : Units) :
    (fetchLanes s window lanes a used units).1.length ≤ lanes := by
  induction lanes generalizing a used with
  | zero => simp [fetchLanes]
  | succ n ih =>
    simp only [fetchLanes]
    split_ifs
    · simp
    · split
      · simp
      · split_ifs
        · simp
        · simpa using ih _ _
    · simp

theorem packLanes_length {n : Nat} {ops : List MicroOp} (h : ops.length ≤ n) : (packLanes n ops).length = n := by
  simp [packLanes]; omega

end Sys2Proof.Machine
end

