-- ==== Sys2Proof/Tests/Slice0.lean ====
section
/-!
SUPPORT. Tests: ill-formed terms, the decoding of a word of every instruction written out from the spec, one step of
every instruction with the spec's own expected values, and a witness for every statement with hypotheses. The words and
the expected values are those of spec/43_integer_alu.md to spec/48_compressed.md (their examples) and of
spec/95_test_vectors.md.
-/

namespace Sys2Proof.Tests

open Sys2Proof Sys2Proof.Machine

/-! ## WellFormed: each check refuses an ill-formed term -/

theorem test_wf_jal_odd : (Instr.jal 1 3).wellFormed = false := by decide
theorem test_wf_branches_odd :
    (Instr.beq 1 2 1).wellFormed = false ∧ (Instr.bne 1 2 1).wellFormed = false ∧ (Instr.blt 1 2 1).wellFormed = false ∧
      (Instr.bge 1 2 1).wellFormed = false ∧ (Instr.bltu 1 2 1).wellFormed = false ∧
      (Instr.bgeu 1 2 1).wellFormed = false := by decide
theorem test_wf_c_addi4spn_zero : (Instr.cAddi4spn 1 0).wellFormed = false := by decide
theorem test_wf_c_addi4spn_scale : (Instr.cAddi4spn 1 6).wellFormed = false := by decide
theorem test_wf_c_word_scale : (Instr.cLw 1 2 2).wellFormed = false ∧ (Instr.cSw 1 2 2).wellFormed = false := by decide
theorem test_wf_c_double_scale :
    (Instr.cLd 1 2 4).wellFormed = false ∧ (Instr.cSd 1 2 4).wellFormed = false := by decide
theorem test_wf_c_addi_rd : (Instr.cAddi 0 1).wellFormed = false := by decide
theorem test_wf_c_addiw_rd : (Instr.cAddiw 0 1).wellFormed = false := by decide
theorem test_wf_c_addi16sp_zero : (Instr.cAddi16sp 0).wellFormed = false := by decide
theorem test_wf_c_addi16sp_scale : (Instr.cAddi16sp 8).wellFormed = false := by decide
theorem test_wf_c_lui_rd : (Instr.cLui 2 0x1000).wellFormed = false := by decide
theorem test_wf_c_lui_zero : (Instr.cLui 5 0).wellFormed = false := by decide
theorem test_wf_c_lui_low_bits : (Instr.cLui 5 0x1001).wellFormed = false := by decide
theorem test_wf_c_j_odd : (Instr.cJ 1).wellFormed = false := by decide
theorem test_wf_c_branches_odd :
    (Instr.cBeqz 1 1).wellFormed = false ∧ (Instr.cBnez 1 1).wellFormed = false := by decide
theorem test_wf_c_lwsp : (Instr.cLwsp 0 4).wellFormed = false ∧ (Instr.cLwsp 1 2).wellFormed = false := by decide
theorem test_wf_c_ldsp : (Instr.cLdsp 0 8).wellFormed = false ∧ (Instr.cLdsp 1 4).wellFormed = false := by decide
theorem test_wf_c_jr : (Instr.cJr 0).wellFormed = false ∧ (Instr.cJalr 0).wellFormed = false := by decide
theorem test_wf_c_mv : (Instr.cMv 1 0).wellFormed = false ∧ (Instr.cAdd 1 0).wellFormed = false := by decide
theorem test_wf_c_stack_stores :
    (Instr.cSwsp 1 2).wellFormed = false ∧ (Instr.cSdsp 1 4).wellFormed = false := by decide

/-! ## Decoding: a word of every instruction -/

theorem test_decode_lui : decode 0x800002b7 .four = .ok (.lui 5 0x80000) := by decide
theorem test_decode_auipc : decode 0x00001297 .four = .ok (.auipc 5 1) := by decide
theorem test_decode_addi : decode 0xff608193 .four = .ok (.addi 3 1 (-10)) := by decide
theorem test_decode_slti : decode 0x0000a193 .four = .ok (.slti 3 1 0) := by decide
theorem test_decode_sltiu : decode 0xfff0b193 .four = .ok (.sltiu 3 1 (-1)) := by decide
theorem test_decode_xori : decode 0xfff0c193 .four = .ok (.xori 3 1 (-1)) := by decide
theorem test_decode_ori : decode 0x0ff0e193 .four = .ok (.ori 3 1 255) := by decide
theorem test_decode_andi : decode 0xf000f193 .four = .ok (.andi 3 1 (-256)) := by decide
theorem test_decode_slli : decode 0x02009193 .four = .ok (.slli 3 1 32) := by decide
theorem test_decode_srli : decode 0x0200d193 .four = .ok (.srli 3 1 32) := by decide
theorem test_decode_srai : decode 0x43f0d193 .four = .ok (.srai 3 1 63) := by decide
theorem test_decode_add : decode 0x002081b3 .four = .ok (.add 3 1 2) := by decide
theorem test_decode_sub : decode 0x402081b3 .four = .ok (.sub 3 1 2) := by decide
theorem test_decode_sll : decode 0x002091b3 .four = .ok (.sll 3 1 2) := by decide
theorem test_decode_slt : decode 0x0020a1b3 .four = .ok (.slt 3 1 2) := by decide
theorem test_decode_sltu : decode 0x0020b1b3 .four = .ok (.sltu 3 1 2) := by decide
theorem test_decode_xor : decode 0x0020c1b3 .four = .ok (.xor 3 1 2) := by decide
theorem test_decode_srl : decode 0x0020d1b3 .four = .ok (.srl 3 1 2) := by decide
theorem test_decode_sra : decode 0x4020d1b3 .four = .ok (.sra 3 1 2) := by decide
theorem test_decode_or : decode 0x0020e1b3 .four = .ok (.or 3 1 2) := by decide
theorem test_decode_and : decode 0x0020f1b3 .four = .ok (.and 3 1 2) := by decide
theorem test_decode_addiw : decode 0x0010819b .four = .ok (.addiw 3 1 1) := by decide
theorem test_decode_slliw : decode 0x01f0919b .four = .ok (.slliw 3 1 31) := by decide
theorem test_decode_srliw : decode 0x0000d19b .four = .ok (.srliw 3 1 0) := by decide
theorem test_decode_sraiw : decode 0x4040d19b .four = .ok (.sraiw 3 1 4) := by decide
theorem test_decode_addw : decode 0x002081bb .four = .ok (.addw 3 1 2) := by decide
theorem test_decode_subw : decode 0x402081bb .four = .ok (.subw 3 1 2) := by decide
theorem test_decode_sllw : decode 0x002091bb .four = .ok (.sllw 3 1 2) := by decide
theorem test_decode_srlw : decode 0x0020d1bb .four = .ok (.srlw 3 1 2) := by decide
theorem test_decode_sraw : decode 0x4020d1bb .four = .ok (.sraw 3 1 2) := by decide
theorem test_decode_mul : decode 0x022081b3 .four = .ok (.mul 3 1 2) := by decide
theorem test_decode_mulh : decode 0x022091b3 .four = .ok (.mulh 3 1 2) := by decide
theorem test_decode_mulhsu : decode 0x0220a1b3 .four = .ok (.mulhsu 3 1 2) := by decide
theorem test_decode_mulhu : decode 0x0220b1b3 .four = .ok (.mulhu 3 1 2) := by decide
theorem test_decode_div : decode 0x0220c1b3 .four = .ok (.div 3 1 2) := by decide
theorem test_decode_divu : decode 0x0220d1b3 .four = .ok (.divu 3 1 2) := by decide
theorem test_decode_rem : decode 0x0220e1b3 .four = .ok (.rem 3 1 2) := by decide
theorem test_decode_remu : decode 0x0220f1b3 .four = .ok (.remu 3 1 2) := by decide
theorem test_decode_mulw : decode 0x022081bb .four = .ok (.mulw 3 1 2) := by decide
theorem test_decode_divw : decode 0x0220c1bb .four = .ok (.divw 3 1 2) := by decide
theorem test_decode_divuw : decode 0x0220d1bb .four = .ok (.divuw 3 1 2) := by decide
theorem test_decode_remw : decode 0x0220e1bb .four = .ok (.remw 3 1 2) := by decide
theorem test_decode_remuw : decode 0x0220f1bb .four = .ok (.remuw 3 1 2) := by decide
theorem test_decode_jal : decode 0x010000ef .four = .ok (.jal 1 16) := by decide
theorem test_decode_jalr : decode 0x00008067 .four = .ok (.jalr 0 1 0) := by decide
theorem test_decode_beq : decode 0x00208863 .four = .ok (.beq 1 2 16) := by decide
theorem test_decode_bne : decode 0x00209863 .four = .ok (.bne 1 2 16) := by decide
theorem test_decode_blt : decode 0x0020c863 .four = .ok (.blt 1 2 16) := by decide
theorem test_decode_bge : decode 0x0020d863 .four = .ok (.bge 1 2 16) := by decide
theorem test_decode_bltu : decode 0x0020e863 .four = .ok (.bltu 1 2 16) := by decide
theorem test_decode_bgeu : decode 0x0020f863 .four = .ok (.bgeu 1 2 16) := by decide
theorem test_decode_lb : decode 0x00808183 .four = .ok (.lb 3 1 8) := by decide
theorem test_decode_lh : decode 0x00809183 .four = .ok (.lh 3 1 8) := by decide
theorem test_decode_lw : decode 0x0080a183 .four = .ok (.lw 3 1 8) := by decide
theorem test_decode_ld : decode 0x0080b183 .four = .ok (.ld 3 1 8) := by decide
theorem test_decode_lbu : decode 0x0080c183 .four = .ok (.lbu 3 1 8) := by decide
theorem test_decode_lhu : decode 0x0080d183 .four = .ok (.lhu 3 1 8) := by decide
theorem test_decode_lwu : decode 0x0080e183 .four = .ok (.lwu 3 1 8) := by decide
theorem test_decode_sb : decode 0xfe208e23 .four = .ok (.sb 2 1 (-4)) := by decide
theorem test_decode_sh : decode 0xfe209e23 .four = .ok (.sh 2 1 (-4)) := by decide
theorem test_decode_sw : decode 0xfe20ae23 .four = .ok (.sw 2 1 (-4)) := by decide
theorem test_decode_sd : decode 0xfe20be23 .four = .ok (.sd 2 1 (-4)) := by decide
theorem test_decode_fence : decode 0x0ff0000f .four = .ok (.fence 0 15 15 0 0) := by decide
theorem test_decode_fenceI : decode 0x0000100f .four = .ok (.fenceI 0 0 0) := by decide
theorem test_decode_ecall : decode 0x00000073 .four = .ok (.ecall) := by decide
theorem test_decode_ebreak : decode 0x00100073 .four = .ok (.ebreak) := by decide
theorem test_decode_cAddi4spn : decode 0x0028 .two = .ok (.cAddi4spn 2 8) := by decide
theorem test_decode_cLw : decode 0x414c .two = .ok (.cLw 3 2 4) := by decide
theorem test_decode_cLd : decode 0x650c .two = .ok (.cLd 3 2 8) := by decide
theorem test_decode_cSw : decode 0xc14c .two = .ok (.cSw 3 2 4) := by decide
theorem test_decode_cSd : decode 0xe50c .two = .ok (.cSd 3 2 8) := by decide
theorem test_decode_cNop : decode 0x0001 .two = .ok (.cNop 0) := by decide
theorem test_decode_cAddi : decode 0x1141 .two = .ok (.cAddi 2 (-16)) := by decide
theorem test_decode_cAddiw : decode 0x2505 .two = .ok (.cAddiw 10 1) := by decide
theorem test_decode_cLi : decode 0x557d .two = .ok (.cLi 10 (-1)) := by decide
theorem test_decode_cAddi16sp : decode 0x713d .two = .ok (.cAddi16sp (-32)) := by decide
theorem test_decode_cLui : decode 0x657d .two = .ok (.cLui 10 0x1f000) := by decide
theorem test_decode_cSrli : decode 0x8011 .two = .ok (.cSrli 0 4) := by decide
theorem test_decode_cSrai : decode 0x947d .two = .ok (.cSrai 0 63) := by decide
theorem test_decode_cAndi : decode 0x98c1 .two = .ok (.cAndi 1 (-16)) := by decide
theorem test_decode_cSub : decode 0x8c05 .two = .ok (.cSub 0 1) := by decide
theorem test_decode_cXor : decode 0x8c25 .two = .ok (.cXor 0 1) := by decide
theorem test_decode_cOr : decode 0x8c45 .two = .ok (.cOr 0 1) := by decide
theorem test_decode_cAnd : decode 0x8c65 .two = .ok (.cAnd 0 1) := by decide
theorem test_decode_cSubw : decode 0x9c05 .two = .ok (.cSubw 0 1) := by decide
theorem test_decode_cAddw : decode 0x9c25 .two = .ok (.cAddw 0 1) := by decide
theorem test_decode_cJ : decode 0xbff5 .two = .ok (.cJ (-4)) := by decide
theorem test_decode_cBeqz : decode 0xdc6d .two = .ok (.cBeqz 0 (-6)) := by decide
theorem test_decode_cBnez : decode 0xe401 .two = .ok (.cBnez 0 8) := by decide
theorem test_decode_cSlli : decode 0x050e .two = .ok (.cSlli 10 3) := by decide
theorem test_decode_cLwsp : decode 0x4532 .two = .ok (.cLwsp 10 12) := by decide
theorem test_decode_cLdsp : decode 0x60a2 .two = .ok (.cLdsp 1 8) := by decide
theorem test_decode_cJr : decode 0x8082 .two = .ok (.cJr 1) := by decide
theorem test_decode_cMv : decode 0x852e .two = .ok (.cMv 10 11) := by decide
theorem test_decode_cEbreak : decode 0x9002 .two = .ok (.cEbreak) := by decide
theorem test_decode_cJalr : decode 0x9282 .two = .ok (.cJalr 5) := by decide
theorem test_decode_cAdd : decode 0x952e .two = .ok (.cAdd 10 11) := by decide
theorem test_decode_cSwsp : decode 0xc22a .two = .ok (.cSwsp 10 4) := by decide
theorem test_decode_cSdsp : decode 0xe406 .two = .ok (.cSdsp 1 8) := by decide

/-! ## One step, with the values the spec expects -/

/-- A state just before the instruction with the bits `w` runs: the reset state with the given registers and pc. -/
def start (regs : List (Reg × Word)) (pc : Word) (nbits w : Nat) : State :=
  State.withFetchWord { State.reset with pc := pc, regs := applyRegWrites State.reset.regs regs } nbits w

/-- What `f` reads in the next state of one step; none when the step stops. -/
def after {α : Type} (s : State) (f : State → α) : Option α :=
  match step s with
  | .next t => some (f t)
  | _ => none

/-- Register `r` after one step. -/
def regAfter (s : State) (r : Reg) : Option Word := after s fun t => t.reg r

theorem test_step_addi : regAfter (start [(1, 0x5)] 0 32 0xff608193) 3 = some 0xfffffffffffffffb := by decide
theorem test_step_slti : regAfter (start [(1, 0xffffffffffffffff)] 0 32 0x0000a193) 3 = some 0x1 := by decide
theorem test_step_sltiu : regAfter (start [(1, 0x5)] 0 32 0xfff0b193) 3 = some 0x1 := by decide
theorem test_step_xori : regAfter (start [(1, 0xff)] 0 32 0xfff0c193) 3 = some 0xffffffffffffff00 := by decide
theorem test_step_ori : regAfter (start [(1, 0xf00)] 0 32 0x0ff0e193) 3 = some 0xfff := by decide
theorem test_step_andi :
    regAfter (start [(1, 0x123456789abcdef0)] 0 32 0xf000f193) 3 = some 0x123456789abcde00 := by decide
theorem test_step_slli : regAfter (start [(1, 0x80000001)] 0 32 0x02009193) 3 = some 0x8000000100000000 := by decide
theorem test_step_srli : regAfter (start [(1, 0xffffffff00000000)] 0 32 0x0200d193) 3 = some 0xffffffff := by decide
theorem test_step_srai :
    regAfter (start [(1, 0x8000000000000000)] 0 32 0x43f0d193) 3 = some 0xffffffffffffffff := by decide
theorem test_step_add :
    regAfter (start [(1, 0x7fffffffffffffff), (2, 0x1)] 0 32 0x002081b3) 3 = some 0x8000000000000000 := by decide
theorem test_step_sub : regAfter (start [(1, 0x0), (2, 0x1)] 0 32 0x402081b3) 3 = some 0xffffffffffffffff := by decide
theorem test_step_sll : regAfter (start [(1, 0x1), (2, 0x41)] 0 32 0x002091b3) 3 = some 0x2 := by decide
theorem test_step_slt : regAfter (start [(1, 0xffffffffffffffff), (2, 0x1)] 0 32 0x0020a1b3) 3 = some 0x1 := by decide
theorem test_step_sltu : regAfter (start [(1, 0xffffffffffffffff), (2, 0x1)] 0 32 0x0020b1b3) 3 = some 0x0 := by decide
theorem test_step_xor : regAfter (start [(1, 0xf0f0), (2, 0xff00)] 0 32 0x0020c1b3) 3 = some 0xff0 := by decide
theorem test_step_srl :
    regAfter (start [(1, 0xffffffffffffffff), (2, 0x44)] 0 32 0x0020d1b3) 3 = some 0xfffffffffffffff := by decide
theorem test_step_sra :
    regAfter (start [(1, 0x8000000000000000), (2, 0x4)] 0 32 0x4020d1b3) 3 = some 0xf800000000000000 := by decide
theorem test_step_or : regAfter (start [(1, 0xf0), (2, 0xf)] 0 32 0x0020e1b3) 3 = some 0xff := by decide
theorem test_step_and : regAfter (start [(1, 0xff0), (2, 0xff)] 0 32 0x0020f1b3) 3 = some 0xf0 := by decide
theorem test_step_addiw : regAfter (start [(1, 0x7fffffff)] 0 32 0x0010819b) 3 = some 0xffffffff80000000 := by decide
theorem test_step_slliw : regAfter (start [(1, 0x1)] 0 32 0x01f0919b) 3 = some 0xffffffff80000000 := by decide
theorem test_step_srliw : regAfter (start [(1, 0x80000000)] 0 32 0x0000d19b) 3 = some 0xffffffff80000000 := by decide
theorem test_step_sraiw : regAfter (start [(1, 0x80000000)] 0 32 0x4040d19b) 3 = some 0xfffffffff8000000 := by decide
theorem test_step_addw :
    regAfter (start [(1, 0x7fffffff), (2, 0x1)] 0 32 0x002081bb) 3 = some 0xffffffff80000000 := by decide
theorem test_step_subw : regAfter (start [(1, 0x0), (2, 0x1)] 0 32 0x402081bb) 3 = some 0xffffffffffffffff := by decide
theorem test_step_sllw : regAfter (start [(1, 0x1), (2, 0x3f)] 0 32 0x002091bb) 3 = some 0xffffffff80000000 := by decide
theorem test_step_srlw :
    regAfter (start [(1, 0xffffffff80000000), (2, 0x20)] 0 32 0x0020d1bb) 3 = some 0xffffffff80000000 := by decide
theorem test_step_sraw :
    regAfter (start [(1, 0x80000000), (2, 0x1f)] 0 32 0x4020d1bb) 3 = some 0xffffffffffffffff := by decide
theorem test_step_mul :
    regAfter (start [(1, 0xfffffffffffffffe), (2, 0x3)] 0 32 0x022081b3) 3 = some 0xfffffffffffffffa := by decide
theorem test_step_mulh :
    regAfter (start [(1, 0xffffffffffffffff), (2, 0x2)] 0 32 0x022091b3) 3 = some 0xffffffffffffffff := by decide
theorem test_step_mulhsu :
    regAfter (start [(1, 0xffffffffffffffff), (2, 0x2)] 0 32 0x0220a1b3) 3 = some 0xffffffffffffffff := by decide
theorem test_step_mulhu : regAfter (start [(1, 0xffffffffffffffff), (2, 0x2)] 0 32 0x0220b1b3) 3 = some 0x1 := by decide
theorem test_step_div :
    regAfter (start [(1, 0xfffffffffffffff9), (2, 0x2)] 0 32 0x0220c1b3) 3 = some 0xfffffffffffffffd := by decide
theorem test_step_divu : regAfter (start [(1, 0x7), (2, 0x0)] 0 32 0x0220d1b3) 3 = some 0xffffffffffffffff := by decide
theorem test_step_rem :
    regAfter (start [(1, 0xfffffffffffffff9), (2, 0x2)] 0 32 0x0220e1b3) 3 = some 0xffffffffffffffff := by decide
theorem test_step_remu : regAfter (start [(1, 0x7), (2, 0x0)] 0 32 0x0220f1b3) 3 = some 0x7 := by decide
theorem test_step_mulw : regAfter (start [(1, 0x80000000), (2, 0x2)] 0 32 0x022081bb) 3 = some 0x0 := by decide
theorem test_step_divw :
    regAfter (start [(1, 0x80000000), (2, 0xffffffffffffffff)] 0 32 0x0220c1bb) 3 = some 0xffffffff80000000 := by decide
theorem test_step_divuw :
    regAfter (start [(1, 0xffffffff), (2, 0x1)] 0 32 0x0220d1bb) 3 = some 0xffffffffffffffff := by decide
theorem test_step_remw :
    regAfter (start [(1, 0xfffffffffffffff9), (2, 0x0)] 0 32 0x0220e1bb) 3 = some 0xfffffffffffffff9 := by decide
theorem test_step_remuw : regAfter (start [(1, 0x80000005), (2, 0x10)] 0 32 0x0220f1bb) 3 = some 0x5 := by decide
theorem test_step_lui : regAfter (start [] 0 32 0x800002b7) 5 = some 0xffffffff80000000 := by decide
theorem test_step_auipc : regAfter (start [] 0x1000 32 0x00001297) 5 = some 0x2000 := by decide
theorem test_step_jal :
    after (start [] 0x1000 32 0x010000ef) (fun t => (t.reg 1, t.pc)) = some (0x1004, 0x1010) := by decide
theorem test_step_jalr : after (start [(1, 0x2003)] 0x1000 32 0x00008067) (fun t => (t.reg 0, t.pc)) = some (0, 0x2002) := by
  decide
theorem test_step_jalr_old_rs1 :
    after (start [(5, 0x2000)] 0x1000 32 0x004282e7) (fun t => (t.reg 5, t.pc)) = some (0x1004, 0x2004) := by decide
theorem test_step_beq : after (start [(1, 5), (2, 5)] 0x1000 32 0x00208863) State.pc = some 0x1010 := by decide
theorem test_step_beq_back : after (start [(1, 5), (2, 5)] 0x1000 32 0x80208063) State.pc = some 0 := by decide
theorem test_step_bne : after (start [(1, 5), (2, 5)] 0x1000 32 0x00209863) State.pc = some 0x1004 := by decide
theorem test_step_bne_taken : after (start [(1, 5), (2, 6)] 0x1000 32 0x00209463) State.pc = some 0x1008 := by decide
theorem test_step_blt :
    after (start [(1, 0xffffffffffffffff), (2, 1)] 0x1000 32 0x0020c863) State.pc = some 0x1010 := by decide
theorem test_step_bge :
    after (start [(1, 0xffffffffffffffff), (2, 1)] 0x1000 32 0x0020d863) State.pc = some 0x1004 := by decide
theorem test_step_bge_equal : after (start [(1, 5), (2, 5)] 0x1000 32 0x0020d463) State.pc = some 0x1008 := by decide
theorem test_step_bltu :
    after (start [(1, 0xffffffffffffffff), (2, 1)] 0x1000 32 0x0020e863) State.pc = some 0x1004 := by decide
theorem test_step_bgeu :
    after (start [(1, 0xffffffffffffffff), (2, 1)] 0x1000 32 0x0020f863) State.pc = some 0x1010 := by decide

/-- The memory of the load vectors of spec/95_test_vectors.md, at 0x1000. -/
def loadBytes : List Host.Cell :=
  [(0x1000, 0x80), (0x1001, 0xff), (0x1002, 0x7f), (0x1003, 0x01), (0x1004, 0xef), (0x1005, 0xcd), (0x1006, 0xab),
    (0x1007, 0x89), (0x1008, 0x11), (0x1009, 0x22), (0x100a, 0x33)]

/-- `start` with x1 = 0x1000 and the memory of the load vectors. -/
def startLoad (nbits w : Nat) : State :=
  State.withFetchWord { start [(1, 0x1000)] 0 32 0 with mem := loadBytes } nbits w

theorem test_step_lb : regAfter (startLoad 32 0x00008183) 3 = some 0xffffffffffffff80 := by decide
theorem test_step_lbu : regAfter (startLoad 32 0x0000c183) 3 = some 0x80 := by decide
theorem test_step_lh : regAfter (startLoad 32 0x00009183) 3 = some 0xffffffffffffff80 := by decide
theorem test_step_lh_misaligned : regAfter (startLoad 32 0x00109183) 3 = some 0x7fff := by decide
theorem test_step_lhu : regAfter (startLoad 32 0x0000d183) 3 = some 0xff80 := by decide
theorem test_step_lw : regAfter (startLoad 32 0x0040a183) 3 = some 0xffffffff89abcdef := by decide
theorem test_step_lw_negative_offset : regAfter (startLoad 32 0xfff0a183) 3 = some 0x7fff8000 := by decide
theorem test_step_lwu : regAfter (startLoad 32 0x0040e183) 3 = some 0x89abcdef := by decide
theorem test_step_ld : regAfter (startLoad 32 0x0000b183) 3 = some 0x89abcdef017fff80 := by decide
theorem test_step_ld_misaligned : regAfter (startLoad 32 0x0030b183) 3 = some 0x33221189abcdef01 := by decide
theorem test_step_lb_past_the_end :
    after (start [(1, 0x10000)] 0 32 0x00008183) State.status = some (.error (.memoryFault 0 0x10000)) := by decide
theorem test_step_lb_wraps :
    after (start [] 0 32 0xfff08183) State.status = some (.error (.memoryFault 0 0xffffffffffffffff)) := by decide

/-- The 12 bytes from 0xffc on, after one step of a store with x1 = 0x1000 and x2 = 0x0102030405060708. -/
def bytesStored (w : Nat) : Option (List Byte) :=
  after (start [(1, 0x1000), (2, 0x0102030405060708)] 0 32 w) fun t => t.mem.bytes 0xffc 12

theorem test_step_sb : bytesStored 0x00208023 = some [0, 0, 0, 0, 8, 0, 0, 0, 0, 0, 0, 0] := by decide
theorem test_step_sh : bytesStored 0x002091a3 = some [0, 0, 0, 0, 0, 0, 0, 8, 7, 0, 0, 0] := by decide
theorem test_step_sw : bytesStored 0xfe20ae23 = some [8, 7, 6, 5, 0, 0, 0, 0, 0, 0, 0, 0] := by decide
theorem test_step_sd : bytesStored 0x0020b023 = some [0, 0, 0, 0, 8, 7, 6, 5, 4, 3, 2, 1] := by decide
theorem test_step_sw_straddles_the_end :
    after (start [(1, 0xfffe), (2, 0x0102030405060708)] 0 32 0x0020a023) (fun t => (t.status, t.mem.byte 0xfffe)) =
      some (.error (.memoryFault 0 0xfffe), 0) := by decide

theorem test_step_fence : after (start [] 0 32 0x8330000f) (fun t => (t.pc, t.status)) = some (4, .running) := by decide
theorem test_step_fence_i :
    after (start [] 0 32 0x0000100f) (fun t => (t.pc, t.status)) = some (4, .running) := by decide
theorem test_step_ebreak : after (start [] 0 32 0x00100073) State.status = some (.halted .ebreak) := by decide
theorem test_step_ecall_exit : after (start [(17, 93)] 0 32 0x00000073) State.status = some (.halted .exit) := by decide
theorem test_step_ecall_refused :
    after (start [(17, 1)] 4 32 0x00000073) State.status = some (.refused (.hostService 4)) := by decide
theorem test_step_illegal :
    after (start [] 0 32 0xffffffff) State.status = some (.error (.illegalInstruction 0 0xffffffff)) := by decide

theorem test_step_c_addi4spn : regAfter (start [(2, 0x8000)] 0 16 0x0028) 10 = some 0x8008 := by decide
theorem test_step_c_lw :
    regAfter (State.withFetchWord { startLoad 16 0 with regs := applyRegWrites State.reset.regs [(10, 0x1000)] } 16 0x414c) 11 =
      some 0xffffffff89abcdef := by decide
theorem test_step_c_ld :
    regAfter (State.withFetchWord { startLoad 16 0 with regs := applyRegWrites State.reset.regs [(10, 0xff8)] } 16 0x650c) 11 =
      some 0x89abcdef017fff80 := by decide
theorem test_step_c_sw :
    after (start [(10, 0x2000), (11, 0x11223344)] 0 16 0xc14c) (fun t => t.mem.bytes 0x2004 5) =
      some [0x44, 0x33, 0x22, 0x11, 0] := by decide
theorem test_step_c_sd :
    after (start [(10, 0x2000), (11, 0x1122334455667788)] 0 16 0xe50c) (fun t => t.mem.bytes 0x2008 8) =
      some [0x88, 0x77, 0x66, 0x55, 0x44, 0x33, 0x22, 0x11] := by decide
theorem test_step_c_nop : after (start [] 0 16 0x0001) (fun t => (t.pc, t.status)) = some (2, .running) := by decide
theorem test_step_c_addi : regAfter (start [(2, 0x8000)] 0 16 0x1141) 2 = some 0x7ff0 := by decide
theorem test_step_c_addiw : regAfter (start [(10, 0x7fffffff)] 0 16 0x2505) 10 = some 0xffffffff80000000 := by decide
theorem test_step_c_li : regAfter (start [] 0 16 0x557d) 10 = some 0xffffffffffffffff := by decide
theorem test_step_c_addi16sp : regAfter (start [(2, 0x8000)] 0 16 0x713d) 2 = some 0x7fe0 := by decide
theorem test_step_c_lui : regAfter (start [] 0 16 0x657d) 10 = some 0x1f000 := by decide
theorem test_step_c_srli : regAfter (start [(8, 0xf0)] 0 16 0x8011) 8 = some 0xf := by decide
theorem test_step_c_srai :
    regAfter (start [(8, 0x8000000000000000)] 0 16 0x947d) 8 = some 0xffffffffffffffff := by decide
theorem test_step_c_andi : regAfter (start [(9, 0x1234)] 0 16 0x98c1) 9 = some 0x1230 := by decide
theorem test_step_c_sub : regAfter (start [(8, 5), (9, 7)] 0 16 0x8c05) 8 = some 0xfffffffffffffffe := by decide
theorem test_step_c_xor : regAfter (start [(8, 0xff), (9, 0x0f)] 0 16 0x8c25) 8 = some 0xf0 := by decide
theorem test_step_c_or : regAfter (start [(8, 0xf0), (9, 0x0f)] 0 16 0x8c45) 8 = some 0xff := by decide
theorem test_step_c_and : regAfter (start [(8, 0xff), (9, 0x0f)] 0 16 0x8c65) 8 = some 0xf := by decide
theorem test_step_c_subw : regAfter (start [(8, 0), (9, 1)] 0 16 0x9c05) 8 = some 0xffffffffffffffff := by decide
theorem test_step_c_addw :
    regAfter (start [(8, 0x7fffffff), (9, 1)] 0 16 0x9c25) 8 = some 0xffffffff80000000 := by decide
theorem test_step_c_j : after (start [] 0x1002 16 0xbff5) State.pc = some 0xffe := by decide
theorem test_step_c_beqz : after (start [] 0x1000 16 0xdc6d) State.pc = some 0xffa := by decide
theorem test_step_c_bnez : after (start [(8, 3)] 0x1000 16 0xe401) State.pc = some 0x1008 := by decide
theorem test_step_c_slli : regAfter (start [(10, 5)] 0 16 0x050e) 10 = some 0x28 := by decide
theorem test_step_c_lwsp :
    regAfter (State.withFetchWord { startLoad 16 0 with regs := applyRegWrites State.reset.regs [(2, 0xff4)] } 16 0x4532) 10 =
      some 0x17fff80 := by decide
theorem test_step_c_ldsp :
    regAfter (State.withFetchWord { startLoad 16 0 with regs := applyRegWrites State.reset.regs [(2, 0xff8)] } 16 0x60a2) 1 =
      some 0x89abcdef017fff80 := by decide
theorem test_step_c_jr :
    after (start [(1, 0x1234)] 0x1000 16 0x8082) (fun t => (t.reg 1, t.pc)) = some (0x1234, 0x1234) := by decide
theorem test_step_c_mv : regAfter (start [(11, 9)] 0 16 0x852e) 10 = some 9 := by decide
theorem test_step_c_ebreak : after (start [] 0 16 0x9002) State.status = some (.halted .ebreak) := by decide
theorem test_step_c_jalr :
    after (start [(5, 0x2000)] 0x1000 16 0x9282) (fun t => (t.reg 1, t.pc)) = some (0x1002, 0x2000) := by decide
theorem test_step_c_add : regAfter (start [(10, 2), (11, 3)] 0 16 0x952e) 10 = some 5 := by decide
theorem test_step_c_swsp :
    after (start [(2, 0x8000), (10, 0x11223344)] 0 16 0xc22a) (fun t => t.mem.bytes 0x8004 5) =
      some [0x44, 0x33, 0x22, 0x11, 0] := by decide
theorem test_step_c_sdsp :
    after (start [(2, 0x8000), (1, 0x1122334455667788)] 0 16 0xe406) (fun t => t.mem.bytes 0x8008 8) =
      some [0x88, 0x77, 0x66, 0x55, 0x44, 0x33, 0x22, 0x11] := by decide

/-! ## Witnesses: for each statement with hypotheses, concrete states and operands that meet them -/

theorem test_witness_DecodeOfEncode :
    (Instr.jal 1 (-1048576)).wellFormed = true ∧ (Instr.beq 1 2 4094).wellFormed = true ∧
      (Instr.cAddi4spn 7 1020).wellFormed = true ∧ (Instr.cLui 31 0x3f000).wellFormed = true := by decide

theorem test_witness_EncodeOfDecode :
    decode 0x80208063 .four = .ok (.beq 1 2 (-4096)) ∧
      decode ((0x7ffd : Parcel).setWidth 32) .two = .ok (.cLui 31 0x3f000) := by decide

theorem test_witness_CompressedRecordIsExpansions :
    (Instr.cSwsp 31 252).wellFormed = true ∧ lenOf (.cSwsp 31 252) = .two ∧
      (Instr.cBeqz 7 (-256)).wellFormed = true ∧ lenOf (.cBeqz 7 (-256)) = .two := by decide

theorem test_witness_IllegalWordsAreRefused_words :
    opcodeOf 0xffffffff ∉ [0x33, 0x3B, 0x13, 0x1B, 0x03, 0x23, 0x63, 0x67, 0x6F, 0x37, 0x17, 0x0F, 0x73] ∧
      (opcodeOf 0x000000f3 = 0x73 ∧ (0x000000f3 : InstWord) ≠ 0x00000073 ∧ (0x000000f3 : InstWord) ≠ 0x00100073) ∧
      (opcodeOf 0x00007003 = 0x03 ∧ funct3Of 0x00007003 = 7) ∧
      (opcodeOf 0x00004023 = 0x23 ∧ 4 ≤ (funct3Of 0x00004023).toNat) ∧
      (opcodeOf 0x00003063 = 0x63 ∧ funct3Of 0x00003063 = 3) ∧
      (opcodeOf 0x00001067 = 0x67 ∧ funct3Of 0x00001067 ≠ 0) ∧
      (opcodeOf 0x0000200f = 0x0F ∧ 2 ≤ (funct3Of 0x0000200f).toNat) := by decide

/-- The words of spec/95_test_vectors.md (0x40001033, 0x4000101b, 0x0000601b) and further ones whose funct3, funct6 or
funct7 has no row. -/
theorem test_witness_IllegalWordsAreRefused_no_row :
    (opcodeOf 0x04001013 = 0x13 ∧ funct3Of 0x04001013 = 1 ∧ funct6Of 0x04001013 ≠ 0) ∧
      (opcodeOf 0x04005013 = 0x13 ∧ funct3Of 0x04005013 = 5 ∧ funct6Of 0x04005013 ∉ [0x00, 0x10]) ∧
      (opcodeOf 0x0000601b = 0x1B ∧ funct3Of 0x0000601b ∈ [2, 3, 4, 6, 7]) ∧
      (opcodeOf 0x4000101b = 0x1B ∧ funct3Of 0x4000101b = 1 ∧ funct7Of 0x4000101b ≠ 0) ∧
      (opcodeOf 0x0200501b = 0x1B ∧ funct3Of 0x0200501b = 5 ∧ funct7Of 0x0200501b ∉ [0x00, 0x20]) ∧
      (opcodeOf 0x04000033 = 0x33 ∧ funct7Of 0x04000033 ∉ [0x00, 0x01, 0x20]) ∧
      (opcodeOf 0x40001033 = 0x33 ∧ funct7Of 0x40001033 = 0x20 ∧ funct3Of 0x40001033 ∉ [0, 5]) ∧
      (opcodeOf 0x0400003b = 0x3B ∧ funct7Of 0x0400003b ∉ [0x00, 0x01, 0x20]) ∧
      (opcodeOf 0x0000203b = 0x3B ∧ funct7Of 0x0000203b = 0x00 ∧ funct3Of 0x0000203b ∉ [0, 1, 5]) ∧
      (opcodeOf 0x0200103b = 0x3B ∧ funct7Of 0x0200103b = 0x01 ∧ funct3Of 0x0200103b ∉ [0, 4, 5, 6, 7]) ∧
      (opcodeOf 0x4000103b = 0x3B ∧ funct7Of 0x4000103b = 0x20 ∧ funct3Of 0x4000103b ∉ [0, 5]) := by decide

/-- The words of 95_test_vectors.md that match no row are refused. -/
theorem test_decode_no_row :
    decode 0x40001033 .four = .error .noRow ∧ decode 0x4000101b .four = .error .noRow ∧
      decode 0x0000601b .four = .error .noRow ∧ decode 0x0000707b .four = .error .opcodeSpace := by decide

theorem test_witness_IllegalWordsAreRefused_parcels :
    (quadrantOf 0x2000 = 0 ∧ cFunct3Of 0x2000 ∈ [1, 4, 5]) ∧
      (quadrantOf 0x0004 = 0 ∧ cFunct3Of 0x0004 = 0 ∧ cImmAddi4spn 0x0004 = 0) ∧
      (quadrantOf 0x2001 = 1 ∧ cFunct3Of 0x2001 = 1 ∧ cRdOf 0x2001 = 0) ∧
      (quadrantOf 0x6101 = 1 ∧ cFunct3Of 0x6101 = 3 ∧ (0x6101 : Parcel).extractLsb' 12 1 = 0 ∧
        (0x6101 : Parcel).extractLsb' 2 5 = 0) ∧
      (quadrantOf 0x9c41 = 1 ∧ cFunct3Of 0x9c41 = 4 ∧ (0x9c41 : Parcel).extractLsb' 12 1 = 1 ∧
        (0x9c41 : Parcel).extractLsb' 10 2 = 3 ∧ 2 ≤ ((0x9c41 : Parcel).extractLsb' 5 2).toNat) ∧
      (quadrantOf 0x2002 = 2 ∧ cFunct3Of 0x2002 ∈ [1, 5]) ∧
      (quadrantOf 0x4002 = 2 ∧ cFunct3Of 0x4002 ∈ [2, 3] ∧ cRdOf 0x4002 = 0) ∧
      (quadrantOf 0x8002 = 2 ∧ cFunct3Of 0x8002 = 4 ∧ (0x8002 : Parcel).extractLsb' 12 1 = 0 ∧ cRdOf 0x8002 = 0 ∧
        cRs2Of 0x8002 = 0) := by decide

/-- The hypotheses that the run goes on, on the sequential reference, with a valid configuration. -/
theorem start_runs (regs : List (Reg × Word)) (pc : Word) (nbits w : Nat) :
    configError (start regs pc nbits w).cfg (start regs pc nbits w).plat = none ∧
      (start regs pc nbits w).status = .running ∧ (start regs pc nbits w).engine = .reference :=
  ⟨(by decide : configError .atReset .atReset = none), rfl, rfl⟩

theorem test_witness_StepRunsTheDecodedInstruction :
    let s := start [] 0 32 0x00108193
    configError s.cfg s.plat = none ∧ s.status = .running ∧ s.engine = .reference ∧
      s.fetchWord s.pc = some (.four, 0x00108193) ∧ decode 0x00108193 .four = .ok (.addi 3 1 1) := by decide

/-- The last two bytes of the memory region hold C.EBREAK, the last four EBREAK. -/
theorem test_witness_EncodedBytesAtPcRun :
    (let s := start [] 0xfffe 16 0x9002;
      InRegion s s.pc (lenOf .cEbreak).bytes ∧
      ∀ k < (lenOf .cEbreak).bytes, s.mem.byte (s.pc.toNat + k) = (encode .cEbreak).extractLsb' (8 * k) 8) ∧
    (let s := start [] 0xfffc 32 0x00100073;
      InRegion s s.pc (lenOf .ebreak).bytes ∧
      ∀ k < (lenOf .ebreak).bytes, s.mem.byte (s.pc.toNat + k) = (encode .ebreak).extractLsb' (8 * k) 8) := by
  unfold InRegion
  decide

theorem test_witness_FetchErrorsEndTheReferenceRun :
    (let s := start [] 0x10000 16 0;
      ¬ InRegion s s.pc 2) ∧
    (let s := start [] 0xfffe 32 0x00100073;
      InRegion s s.pc 2 ∧ (s.mem.byte s.pc.toNat).extractLsb' 0 2 = 3 ∧ ¬ InRegion s s.pc 4) ∧
    (let s := start [] 0 16 0;
      s.fetchWord s.pc = some (.two, 0) ∧ decode 0 .two = .error .reservedCompressed) := by
  unfold InRegion
  decide

/-- The first and the last byte, halfword, word and doubleword of the memory region, and the memory is canonical: for
the loads, the stores and `MemRead` and `MemWrite`. -/
theorem test_witness_in_range :
    let s := start [(1, 0x10000)] 0 32 0x0020a023
    let a (base : Reg) (imm : BitVec 12) := effectiveAddress (s.reg base) (sext imm)
    s.mem.wf ∧
      (InRegion s (a 1 (-1)) 1 ∧ InRegion s (a 1 (-2)) 2 ∧ InRegion s (a 1 (-4)) 4 ∧ InRegion s (a 1 (-8)) 8) ∧
      (InRegion s (a 0 0) 1 ∧ InRegion s (a 0 0) 2 ∧ InRegion s (a 0 0) 4 ∧ InRegion s (a 0 0) 8) ∧
      s.inRange (a 1 (-8)) 8 = true := by
  unfold InRegion
  decide

/-- One byte further on, no access is in range; and below the region an address wraps to its far end. -/
theorem test_witness_OutOfRangeAccessFaults :
    let s := start [(1, 0x10000)] 0 32 0x0020a023
    let a (base : Reg) (imm : BitVec 12) := effectiveAddress (s.reg base) (sext imm)
    ¬ InRegion s (a 1 0) 1 ∧ ¬ InRegion s (a 1 (-1)) 2 ∧ ¬ InRegion s (a 1 (-3)) 4 ∧ ¬ InRegion s (a 1 (-7)) 8 ∧
      ¬ InRegion s (a 0 (-1)) 1 := by
  unfold InRegion
  decide

theorem test_witness_EcallWithTheReferenceHost :
    let call (a7 a1 a2 : Word) := start [(17, a7), (11, a1), (12, a2)] 0 32 0x73
    (call 93 0 0).plat.host = .testHost ∧ (call 93 0 0).reg 17 = 93 ∧
      ((call 64 0 0).reg 17 = 64 ∧ (call 64 0 0).reg 12 = 0) ∧
      (let s := call 64 0xffff 1;
        s.reg 17 = 64 ∧ s.reg 12 ≠ 0 ∧ InRegion s (s.reg 11) (s.reg 12).toNat) ∧
      (let s := call 64 0xffff 2;
        s.reg 17 = 64 ∧ s.reg 12 ≠ 0 ∧ ¬ InRegion s (s.reg 11) (s.reg 12).toNat) ∧
      ((call 63 0 0).reg 17 ≠ 93 ∧ (call 63 0 0).reg 17 ≠ 64) := by
  unfold InRegion
  decide

/-- Each verdict, given by the reference host; and an answer that writes a register twice and the last byte of the
region. -/
theorem test_witness_EcallWithAnyHost :
    let call (a7 a1 a2 : Word) := start [(17, a7), (11, a1), (12, a2)] 0 32 0x73
    (call 64 0 0).hostReply.verdict = .continue ∧ (call 93 0 0).hostReply.verdict = .exit ∧
      (call 64 0x10000 1).hostReply.verdict = .fault 0x10000 ∧ (call 0 0 0).hostReply.verdict = .refuse ∧
      (call 0 0 0).mem.wf ∧
      (let r : HostReply := ⟨.continue, [(31, 1), (31, 2)], [(0xffff, 7)], []⟩;
        (∀ p ∈ r.regWrites, p.1 ≠ 30) ∧ r.regWrites = [(31, 1)] ++ ((31 : Reg), (2 : Word)) :: [] ∧ (31 : Reg) ≠ 0 ∧
        (∀ p ∈ r.memWrites, p.1 ≠ 0) ∧ r.memWrites = [] ++ (0xffff, 7) :: [] ∧
        (call 0 0 0).plat.memBase ≤ 0xffff ∧ 0xffff < (call 0 0 0).plat.memBase + (call 0 0 0).plat.memSize) := by
  refine ⟨by decide, by decide, by decide, by decide, by decide, by simp, rfl, by decide, by simp, rfl, ?_, ?_⟩
  · exact Nat.zero_le _
  · show 0xffff < 0 + 0x10000
    omega

theorem test_witness_CompressedLoadStoreResults :
    let s := start [(2, 0xff00), (8, 0xff84), (9, 0xfe00)] 0 16 0
    s.mem.wf ∧ InRegion s (effectiveAddress (s.reg (primed 0)) (zext (120 : BitVec 7))) 4 ∧
      ¬ InRegion s (effectiveAddress (s.reg (primed 0)) (zext (124 : BitVec 7))) 4 ∧
      InRegion s (effectiveAddress (s.reg (primed 1)) (zext (248 : BitVec 8))) 8 ∧
      ¬ InRegion s (effectiveAddress (s.reg (primed 0)) (zext (120 : BitVec 8))) 8 ∧
      InRegion s (effectiveAddress (s.reg 2) (zext (252 : BitVec 8))) 4 ∧
      InRegion s (effectiveAddress (s.reg 2) (zext (248 : BitVec 9))) 8 ∧
      ¬ InRegion s (effectiveAddress (s.reg 2) (zext (256 : BitVec 9))) 8 := by
  unfold InRegion
  decide

/-- The stack forms run off the end of the region from 0xff04 on. -/
theorem test_witness_CompressedLoadStoreResults_stack_end :
    let s := start [(2, 0xff04)] 0 16 0
    ¬ InRegion s (effectiveAddress (s.reg 2) (zext (252 : BitVec 8))) 4 := by
  unfold InRegion
  decide

/-! ### Launch and configuration -/

/-- A platform with two bytes of memory. -/
def twoBytes : Platform := { Platform.atReset with memBase := 0x1000, memSize := 2, entry := 0x1000 }

/-- A launch that names a register twice, x0, the region's last byte twice and a byte outside it. -/
theorem test_witness_launch :
    ∃ s, launch .pipeline .atReset twoBytes [(1, 5), (0, 9), (1, 6)] [(0x1001, 3), (0x1001, 4), (0x1002, 5)] = .ok s ∧
      s.reg 1 = 6 ∧ s.reg 0 = 0 ∧ s.mem = [(0x1001, 4)] := ⟨_, rfl, by decide⟩

/-- Each check of R240, failing by one; every value just inside passes together. -/
theorem test_witness_ConfigurationChecksInOrder :
    let c := Config.atReset
    let p := Platform.atReset
    configError { c with width := 33 } p = some .w ∧
      configError { c with ratioNum := 3, ratioDen := 4 } p = some .r ∧
      configError { c with predictor := .unsupported } p = some .predictor ∧
      configError { c with counterBits := 9 } p = some .n ∧ configError { c with tableBits := 17 } p = some .tb ∧
      configError { c with initCounter := 4 } p = some .initCounter ∧ configError { c with dbf := true } p = some .dbf ∧
      configError { c with rasDepth := 65 } p = some .rasd ∧ configError c { p with memSize := 0 } = some .memSize ∧
      configError c { p with memBase := 2 ^ 64 - 1, memSize := 2 } = some .memSize ∧
      configError c { p with entry := 1 } = some .entry ∧
      configError
        { c with width := 32, counterBits := 8, tableBits := 16, initCounter := 255, rasDepth := 64 }
        { p with memBase := 2 ^ 64 - 1, memSize := 1, entry := 0xfffffffffffffffe } = none := by decide

/-- The defaults of R8: `initCounter` follows N. -/
theorem test_config_defaults :
    ({ width := 1, budget := 1, counterBits := 1 } : Config).initCounter = 0 ∧
      ({ width := 1, budget := 1 } : Config).initCounter = 1 ∧
      ({ width := 1, budget := 1, counterBits := 4 } : Config).initCounter = 7 ∧
      ({ width := 1, budget := 1, counterBits := 8 } : Config).initCounter = 127 := by decide

/-- A run at its last cycle's end, and one with a budget of 0. -/
theorem test_witness_TheBudgetEndsEveryRun :
    State.reset.status = .running ∧ State.reset.metrics.cycles ≤ State.reset.cfg.budget ∧
      (let s := { State.reset with cfg := { Config.atReset with budget := 0 } };
        s.status = .running ∧ s.metrics.cycles ≤ s.cfg.budget ∧ s.pipelineRun.status = .notHalted) ∧
      (let s := State.reset.setStatus .notHalted;
        configError s.cfg s.plat = none ∧ s.status ≠ .running) := by decide

/-! ### Steps of the block -/

/-- The block with W = `w`, with the given registers, right after launch. -/
def block (w : Nat) (regs : List (Reg × Word)) : State :=
  State.initial .pipeline { Config.atReset with width := w } .atReset (applyRegWrites (Vector.replicate 32 0) regs) []

/-- A freshly fetched micro-op of 4 bytes. -/
def op (a : Word) (w : InstWord) : MicroOp := newMicroOp a .four w

/-- `addi x1, x0, 10` and `addi x1, x0, 20` after Execute. -/
def addi10 : MicroOp := { op 0 0x00a00093 with result := 10 }
def addi20 : MicroOp := { op 4 0x01400093 with result := 20 }

/-- A latch that holds these slots. -/
def holding (l : Lanes) : Latch := ⟨l, false⟩

/-- The decoded record of a micro-op that has one. -/
theorem op_addi (u : MicroOp) (h : u = addi10 ∨ u = addi20) : u.plain := by
  rcases h with rfl | rfl
  · exact ⟨rfl, _, rfl, by decide⟩
  · exact ⟨rfl, _, rfl, by decide⟩

theorem step_next_of (s t : State) (h : s.status = .running ∧ s.engine = .pipeline ∧ configError s.cfg s.plat = none ∧
    s.pipelineTurn = t) : step s = .next t := by
  obtain ⟨h1, h2, h3, h4⟩ := h
  simp [step, h1, h2, h3, h4]

/-- A register write, a store and an output, each by a step of the block. -/
theorem test_witness_WhoChangesTheArchitecturalState :
    (let s := { block 1 [] with memwb := holding [some addi10] };
      ∃ t, s.engine = .pipeline ∧ step s = .next t ∧ t.reg 1 ≠ s.reg 1) ∧
    (let s := { block 1 [] with exmem := holding [some { op 0 0x0020a023 with result := 0xfffc, store := 1 }] };
      ∃ t, s.engine = .pipeline ∧ step s = .next t ∧ t.mem.byte 0xfffc ≠ s.mem.byte 0xfffc) ∧
    (let s := { block 1 [(17, 64), (12, 1)] with memwb := holding [some (op 0 0x73)] };
      ∃ t, s.engine = .pipeline ∧ step s = .next t ∧ t.out ≠ s.out) :=
  ⟨⟨_, rfl, step_next_of _ _ ⟨rfl, rfl, by decide, rfl⟩, by decide⟩,
    ⟨_, rfl, step_next_of _ _ ⟨rfl, rfl, by decide, rfl⟩, by decide⟩,
    ⟨_, rfl, step_next_of _ _ ⟨rfl, rfl, by decide, rfl⟩, by decide⟩⟩

/-- A cycle of the block from the launch state: the premise of the statements about every step. -/
theorem test_witness_step : ∃ t, step State.reset = .next t ∧ t.metrics.cycles = 1 :=
  ⟨_, step_next_of _ _ ⟨rfl, rfl, by decide, rfl⟩, by decide⟩

/-- The invariant holds of a state other than reset: `addi x3, x1, 1` at pc with the reference taking the step. -/
theorem test_witness_InvariantIsKept :
    (start [(1, 5)] 0 32 0x00108193).Inv ∧
      ∃ t, step (start [(1, 5)] 0 32 0x00108193) = .next t ∧ t.reg 3 = 6 := by
  refine ⟨?_, _, rfl, by decide⟩
  have empty : (Latch.empty 1).Ok Config.atReset :=
    ⟨rfl, rfl, fun u h => by simp [Latch.empty, bubbles] at h⟩
  constructor <;> first | exact empty | decide | simp [start, State.withFetchWord, State.reset, State.initial, Even64]

/-- A flush by FENCE.I, and one by a mismatch. -/
theorem test_witness_AtMostOneFlushPerCycle :
    (let s := { block 1 [] with memwb := holding [some (op 0 0x0000100f)] };
      s.cycle.metrics.flushes ≠ s.metrics.flushes) ∧
    (let s := { block 1 [] with idex := holding [some (op 0 0x00000463)] };
      s.cycle.metrics.mispredicts ≠ s.metrics.mispredicts) := by decide

/-- A block with another Decoder and ComputeUnit, in which every word is one instruction that writes 7 to x5: an
instruction that enters at 0 has retired after five cycles. -/
theorem test_other_units :
    let units : Units :=
      { Units.reference with
        decode := fun _ len => .ok { recordOf (.addi 5 0 0) with op := .other 0, len := len }
        compute := fun _ _ _ _ _ _ => ⟨7, 0, false, 0⟩ }
    ((block 1 []).pipelineTurns 5 units).reg 5 = 7 ∧ ((block 1 []).pipelineTurns 5 units).metrics.isaRetired = 1 ∧
      ((block 1 []).referenceStepWith units).reg 5 = 7 := by decide

/-! ### Writeback and Memory -/

/-- Two lanes that write x1, a bubble between them; and a register that none of them writes. -/
theorem test_witness_WritebackCommitsInLaneOrder :
    let l : Lanes := [some addi10, none, some addi20]
    PlainLanes l ∧ l = [some addi10, none] ++ some addi20 :: [] ∧ addi20.writes 1 ∧
      (∀ q, some q ∈ l → ¬ q.writes 2) := by
  refine ⟨fun u h => op_addi u ?_, rfl, ⟨by decide, _, rfl, by decide⟩, fun q h => ?_⟩
  · simpa using h
  · have hq : q = addi10 ∨ q = addi20 := by simpa using h
    rintro ⟨-, d, hd, -, hr⟩
    rcases hq with rfl | rfl <;> (cases hd; revert hr; decide)

/-- An older lane that commits, a FetchFault, and a younger lane. -/
theorem test_witness_WritebackRaisesThePendingError :
    let s := { block 4 [] with memwb := holding [some addi10, some (faultSlot 4), some addi20, none] }
    s.memwb.lanes = [some addi10] ++ some (faultSlot 4) :: [some addi20, none] ∧ PlainLanes [some addi10] ∧
      (faultSlot 4).fault = some (.fetchFault 4) :=
  ⟨rfl, fun u h => op_addi u (.inl (by simpa using h)), rfl⟩

/-- EBREAK, FENCE.I and ECALL after a lane that commits; the reference host gives each verdict. -/
theorem test_witness_SystemActionsAtWriteback :
    PlainLanes [some addi10] ∧
      (recordOf .ebreak).regWrite = false ∧ (recordOf (.fenceI 0 0 0)).regWrite = false ∧
      (recordOf .ecall).regWrite = false ∧ (op 4 0x00100073).fault = none ∧ (op 4 0x0000100f).fault = none ∧
      (op 4 0x00000073).fault = none ∧
      (op 4 0x00100073).dec = some (recordOf .ebreak) ∧ (op 4 0x0000100f).dec = some (recordOf (.fenceI 0 0 0)) ∧
      (op 4 0x00000073).dec = some (recordOf .ecall) ∧
      (retireLanes [some addi10] (block 2 [(17, 64)])).hostReply.verdict = .continue ∧
      (retireLanes [some addi10] (block 2 [(17, 93)])).hostReply.verdict = .exit ∧
      (retireLanes [some addi10] (block 2 [(17, 64), (11, 0xffff), (12, 2)])).hostReply.verdict = .fault 0xffff ∧
      (retireLanes [some addi10] (block 2 [])).hostReply.verdict = .refuse :=
  ⟨fun u h => op_addi u (.inl (by simpa using h)), rfl, rfl, rfl, rfl, rfl, rfl, rfl, rfl, rfl, by decide, by decide, by decide, by decide⟩

/-- A pending error; a signed and an unsigned load at the end of the region, a load and a store just past it; and no
access, in records as the Decoder gives them: ADDI, BEQ, JAL, FENCE and ECALL. -/
theorem test_witness_MemoryStageLanes :
    (faultSlot 0).fault ≠ none ∧ (blankOp 0).dec = none ∧
      addi10.fault = none ∧ addi10.dec = some (recordOf (.addi 1 0 10)) ∧
      (∀ d ∈ [recordOf (.addi 1 0 10), recordOf (.beq 0 0 8), recordOf (.jal 1 16), recordOf (.fence 0 0 0 0 0),
        recordOf .ecall], d.isLoad = false ∧ d.isStore = false ∧ d.memBytes = 0) ∧
      (let s := block 1 [];
        let lb := { op 0 0x00008183 with result := 0xffff };
        let ld := { op 0 0x0000b183 with result := 0xfff8 };
        let sd := { op 0 0x0020b023 with result := 0xfff9 };
        (lb.fault = none ∧ lb.dec = some (recordOf (.lb 3 1 0)) ∧ InRegion s lb.result 1) ∧
        (ld.fault = none ∧ ld.dec = some (recordOf (.ld 3 1 0)) ∧ InRegion s ld.result 8) ∧
        (recordOf (.lb 3 1 0)).memBytes ∈ [1, 2, 4, 8] ∧ (recordOf (.lb 3 1 0)).isLoad = true ∧
        (recordOf (.lb 3 1 0)).memSigned = true ∧ (recordOf (.lbu 3 1 0)).memSigned = false ∧
        (sd.fault = none ∧ sd.dec = some (recordOf (.sd 2 1 0)) ∧ (recordOf (.sd 2 1 0)).isStore = true ∧
          ¬ InRegion s sd.result 8) ∧
        (let ld := { ld with result := 0xfff9 };
          ld.fault = none ∧ ld.dec = some (recordOf (.ld 3 1 0)) ∧ (recordOf (.ld 3 1 0)).isLoad = true ∧
            ¬ InRegion s ld.result 8)) := by
  unfold InRegion
  decide

/-- An `addi` in EXMEM goes to MEMWB as it is, and the older `lb` with the byte loaded. -/
theorem test_memory_stage_copies :
    let lb : MicroOp := { op 0 0x00008183 with result := 0x100 }
    let s := { block 2 [] with mem := [(0x100, 0x80)], exmem := holding [some lb, some addi20] }
    s.memoryStage.memwb.lanes = [some { lb with result := 0xffffffffffffff80 }, some addi20] := by decide

/-- A store whose last byte is the first byte of a younger instruction, and one that ends just before it. -/
theorem test_witness_StoreSnoopFlush :
    let s := block 1 []
    let sd (a : Word) : MicroOp := { op 0 0x0020b023 with result := a }
    let v := op 0x107 0x00a00093
    (sd 0x100).fault = none ∧ (sd 0x100).dec = some (recordOf (.sd 2 1 0)) ∧
      (recordOf (.sd 2 1 0)).isStore = true ∧ (recordOf (.sd 2 1 0)).isLoad = false ∧
      (recordOf (.sd 2 1 0)).memBytes = 8 ∧ InRegion s (sd 0x100).result 8 ∧
      ((0x100 : Word).toNat ≤ 0x107 ∧ 0x107 < (0x100 : Word).toNat + 8 ∧ v.pc.toNat ≤ 0x107 ∧
        0x107 < v.pc.toNat + v.len.bytes) ∧
      (sd 0xff).result.toNat + 8 ≤ v.pc.toNat := by
  unfold InRegion
  decide

/-! ### Decode -/

/-- `addi x1, x0, 10`, `add x2, x1, x0`, `ebreak`, `addi x1, x0, 20`. -/
def fourOps : List MicroOp := [op 0 0x00a00093, op 4 0x00008133, op 8 0x00100073, op 12 0x01400093]

/-- The bundle splits before the consumer; with the cascade it splits after EBREAK, and the consumer takes lane 0. -/
theorem test_witness_SplitPointIsTheFirstObstacle :
    (planLanes .atReset [] false (fourOps.map some ++ bubbles 1)).length = 1 ∧
      (planLanes { Config.atReset with cascade := true } [] false (fourOps.map some ++ bubbles 1)).length = 3 ∧
      (planLanes { Config.atReset with cascade := true } [] false (fourOps.map some ++ bubbles 1))[1]? =
        some ⟨op 4 0x00008133, .lane 0, .outside⟩ ∧
      fourOps[1]? = some (op 4 0x00008133) ∧ fourOps ≠ [] ∧
      (planLanes { Config.atReset with fusion := true } [] false
        ([op 0 0x123452b7, op 4 0x67828293].map some ++ bubbles 0))[1]? =
        some ⟨{ op 4 0x67828293 with fusedPrev := true }, .lane 0, .outside⟩ := by decide

/-- A producer in EXMEM, a load there, a producer in MEMWB only, and none at all. -/
theorem test_witness_ForwardingIsYoungestFirst :
    addi20.produces 1 = true ∧ (op 0 0x0000a103).produces 2 = true ∧
      (op 0 0x0000a103).flag Decoded.isLoad = true ∧ addi20.flag Decoded.isLoad = false ∧
      (let s := { block 2 [] with
          exmem := holding [some addi10, some addi20], memwb := holding [some (op 0 0x0000a103), none] };
        s.exmem.lanes = [some addi10] ++ some addi20 :: [] ∧
        (∀ p, some p ∈ s.exmem.lanes → p.produces 2 = false) ∧
        s.memwb.lanes = [] ++ some (op 0 0x0000a103) :: [none] ∧
        (∀ p, some p ∈ s.exmem.lanes ++ s.memwb.lanes → p.produces 3 = false)) := by
  refine ⟨by decide, by decide, by decide, by decide, rfl, fun p h => ?_, rfl, fun p h => ?_⟩
  · have hp : p = addi10 ∨ p = addi20 := by simpa [holding] using h
    rcases hp with rfl | rfl <;> decide
  · have hp : p = addi10 ∨ p = addi20 ∨ p = op 0 0x0000a103 := by simpa [holding] using h
    rcases hp with rfl | rfl | rfl <;> decide

/-- `lw x2, 0(x1)` in EXMEM and `add x3, x2, x1` in IFID: the lane waits. With the load in MEMWB it does not. -/
theorem test_witness_LoadUseStallHoldsTheBundle :
    (let s := { block 1 [] with
        exmem := holding [some (op 0 0x0000a103)], ifid := holding [some (op 4 0x001101b3)] };
      ∃ p ∈ planLanes s.cfg [] false s.ifid.lanes, MustWait s p.op.readsA p.laneA) ∧
    (let s := { block 1 [] with
        memwb := holding [some (op 0 0x0000a103)], ifid := holding [some (op 4 0x001101b3)] };
      planLanes s.cfg [] false s.ifid.lanes = [⟨op 4 0x001101b3, .outside, .outside⟩] ∧
      s.forward 2 ≠ none ∧ s.forward 1 ≠ none) :=
  ⟨⟨⟨op 4 0x001101b3, .outside, .outside⟩, by decide, 2, by decide, by simp, by decide⟩, by decide⟩

/-- Four fetched lanes with W = 5: the first is issued, the others go back. -/
theorem test_witness_IssueSendsTheRestBack :
    let s := { block 5 [] with ifid := holding (fourOps.map some ++ bubbles 1) }
    s.ifid.lanes = fourOps.map some ++ bubbles 1 ∧ fourOps.length + 1 = s.cfg.width ∧
      planLanes s.cfg [] false s.ifid.lanes = [⟨op 0 0x00a00093, .outside, .outside⟩] ∧
      (∀ p ∈ planLanes s.cfg [] false s.ifid.lanes,
        ¬ MustWait s p.op.readsA p.laneA ∧ ¬ MustWait s p.op.readsB p.laneB) ∧
      fourOps[(planLanes s.cfg [] false s.ifid.lanes).length]? = some (op 4 0x00008133) := by
  have hp : planLanes { Config.atReset with width := 5 } [] false (fourOps.map some ++ bubbles 1) =
      [⟨op 0 0x00a00093, .outside, .outside⟩] := by decide
  refine ⟨rfl, rfl, hp, fun p h => ?_, by decide⟩
  have : p = ⟨op 0 0x00a00093, .outside, .outside⟩ := by
    have h' := hp ▸ (show p ∈ planLanes { Config.atReset with width := 5 } [] false (fourOps.map some ++ bubbles 1) from h)
    simpa using h'
  subst this
  exact ⟨fun ⟨r, h, _⟩ => (Option.some_ne_none r).elim (show some r = none from Eq.symm h),
    fun ⟨r, h, _⟩ => (Option.some_ne_none r).elim (show some r = none from Eq.symm h)⟩

theorem test_witness_FusiblePairsAreTheTable :
    (∀ i ∈ [Instr.lui 5 0x12345, .cLui 5 0x3f000, .addi 5 5 0x678, .addiw 5 5 1, .cAddiw 5 1, .auipc 6 1,
      .slli 5 5 32, .srli 5 5 32, .cSlli 5 32], i.wellFormed = true) ∧
      expand (.cLui 5 0x3f000) = .lui 5 0xfffff ∧ expand (.cAddiw 5 1) = .addiw 5 5 1 ∧
      expand (.cSlli 5 32) = .slli 5 5 32 ∧
      fusiblePattern (recordOf (.cSlli 5 32)) (recordOf (.srli 5 5 32)) = true ∧
      fusiblePattern (recordOf (.lui 5 1)) (recordOf (.addi 5 6 1)) = false := by decide

/-! ### Resolution, predictor, return-address stack -/

/-- `beq x0, x0, 8`, resolved as taken after a bubble and an older lane, and never predicted taken. -/
def takenBeq : MicroOp := { op 4 0x00000463 with taken := true, target := 12 }

theorem test_witness_MismatchFlush :
    let s := { block 4 [] with exmem := holding [some addi10, none, some takenBeq, some addi20] }
    s.exmem.lanes = [some addi10, none] ++ some takenBeq :: [some addi20] ∧
      (∀ q, some q ∈ [some addi10, none] → q.fault ≠ none ∨ q.actualPc = q.followedPc) ∧ takenBeq.fault = none ∧
      (if takenBeq.taken then takenBeq.target else takenBeq.pc + BitVec.ofNat 64 takenBeq.len.bytes) ≠
        (if takenBeq.predTaken then takenBeq.predTarget else takenBeq.pc + BitVec.ofNat 64 takenBeq.len.bytes) := by
  refine ⟨rfl, fun q h => ?_, rfl, by decide⟩
  have hq : q = addi10 := by simpa using h
  subst hq
  decide

/-- A branch predicted right, one whose target is its successor, and a pending error. -/
theorem test_witness_CorrectPathResolution :
    let s := { block 4 [] with
      exmem := holding [some { takenBeq with predTaken := true, predTarget := 12, dirPred := true },
        some { takenBeq with target := 8 }, some (faultSlot 8), none] }
    ∀ q, some q ∈ s.exmem.lanes → q.fault ≠ none ∨ q.actualPc = q.followedPc := by
  intro s q h
  have hq : q = { takenBeq with predTaken := true, predTarget := 12, dirPred := true } ∨
      q = { takenBeq with target := 8 } ∨ q = faultSlot 8 := by simpa [s, holding] using h
  rcases hq with rfl | rfl | rfl <;> decide

/-- A mismatch at lane 1: a branch before it and the mismatched one train the predictor, the younger branch does not. -/
theorem test_witness_CorrectPathResolution_mismatch :
    let older : MicroOp := { op 0 0x00001063 with predIdx := some 0, dirPred := false }
    let u : MicroOp := { takenBeq with predIdx := some 2 }
    let younger : MicroOp := { op 8 0x00000463 with predIdx := some 4, taken := true, target := 16 }
    let s := { block 3 [] with exmem := holding [some older, some u, some younger] }
    s.exmem.lanes = [some older] ++ some u :: [some younger] ∧ older.actualPc = older.followedPc ∧ u.fault = none ∧
      u.actualPc ≠ u.followedPc ∧ (resolvedBy ([some older] ++ [some u]) s).counters = [(0, 0), (2, 2)] ∧
      branchesIn ([some older] ++ [some u]) = 2 ∧ rightBranchesIn ([some older] ++ [some u]) = 1 := by decide

/-- A table with a counter at each end of its range. -/
theorem test_witness_CountersSaturate :
    let s := { block 1 [] with counters := [(3, 0), (4, 3)] }
    sparseWf s.cfg.initCounter s.counters ∧ s.counter 3 = 0 ∧ s.counter 4 = 3 ∧ s.counter 5 = 1 := by decide

theorem test_witness_PredictionReadsTheUpperHalf :
    (let s := { block 1 [] with cfg := { Config.atReset with predictor := .static } };
      s.cfg.predictor = .static) ∧
    (let s := { block 1 [] with counters := [(4, 2)] };
      s.cfg.predictor = .bimodal ∧ 4 = ((8 : Word) >>> 1).toNat % 2 ^ s.cfg.tableBits ∧ s.predict 8 = (true, some 4)) ∧
    (let s := { block 1 [] with cfg := { Config.atReset with predictor := .gshare, tableBits := 4 }, ghr := 11 };
      s.cfg.predictor = .gshare ∧ 15 = (((0x1008 : Word) >>> 1).toNat ^^^ s.ghr) % 2 ^ s.cfg.tableBits) := by decide

/-- A full stack of depth 2, a call, a return and neither. -/
theorem test_witness_ReturnAddressStack :
    let s := { block 1 [] with cfg := { Config.atReset with ras := true, rasDepth := 2 }, rasStack := [0x204, 0x104] }
    s.rasStack.length ≤ s.cfg.rasDepth ∧ (op 0x300 0x000280e7).dec = some (recordOf (.jalr 1 5 0)) ∧
      (recordOf (.jalr 1 5 0)).isCall = true ∧ (op 0x400 0x00008067).dec = some (recordOf (.jalr 0 1 0)) ∧
      (recordOf (.jalr 0 1 0)).isReturn = true ∧ (recordOf (.jalr 0 5 0)).isCall = false ∧
      (recordOf (.jalr 0 5 0)).isReturn = false := by decide

/-! ### Fetch and runs -/

/-- The narrowest window, and W = 2 at the end of the region: an instruction and a fault slot. -/
theorem test_witness_FetchBuildsAContiguousBundle :
    1 ≤ (block 1 []).cfg.width ∧ 4 ≤ Config.fetchBytes (block 1 []).cfg ∧
      (let s := { block 2 [] with pc := 0xfffe, mem := [(0xfffe, 1)] };
        let us := (fetchLanes s (Config.fetchBytes s.cfg) s.cfg.width s.pc 0).1;
        us[0]? = some (newMicroOp 0xfffe .two 1) ∧ us[1]? = some (faultSlot 0x10000)) := by decide

/-- The second parcel at the end of the region: a fault slot when the window has room for it (W = 1), and an end before it
when a C.ADDI has used half of a window of 4 bytes (W = 2, R = 1/2). -/
theorem test_witness_FetchBuildsAContiguousBundle_second_parcel :
    (let s := { block 1 [] with pc := 0xfffe, mem := [(0xfffe, 3)] };
      (fetchLanes s (Config.fetchBytes s.cfg) s.cfg.width s.pc 0).1 = [faultSlot 0xfffe] ∧ InRegion s 0xfffe 2) ∧
    (let s := { block 2 [] with
        cfg := { Config.atReset with width := 2, ratioDen := 2 }, pc := 0xfffc, mem := [(0xfffc, 1), (0xfffe, 3)] };
      fetchLanes s (Config.fetchBytes s.cfg) s.cfg.width s.pc 0 = ([newMicroOp 0xfffc .two 1], 0xfffe) ∧
        Config.fetchBytes s.cfg = 4 ∧ InRegion s 0xfffe 2 ∧ (s.mem.byte 0xfffe).extractLsb' 0 2 = 3) := by
  unfold InRegion
  decide

/-- The three modes: a new bundle with a bubble behind it, bubbles, and the bundle as it was. -/
theorem test_witness_FetchBuildsAContiguousBundle_modes :
    let s (m : FetchMode) := { block 2 [] with
      pc := 0xfffe, mem := [(0xfffe, 3)], ifid := holding [some addi10, some addi20], fetchMode := m }
    (s .run).fetchStage.ifid = holding [some (faultSlot 0xfffe), none] ∧ (s .run).fetchStage.pc = 0xfffe ∧
      (s .bubble).fetchStage.ifid = holding [none, none] ∧ (s .bubble).fetchStage.pc = 0xfffe ∧
      (s .hold).fetchStage.ifid = ⟨[some addi10, some addi20], true⟩ := by decide

/-- A branch, a JAL, a return with and without an entry, and none of them. -/
theorem test_witness_FetchFollowsItsPredictions :
    decode 0x00000463 .four = .ok (.beq 0 0 8) ∧ (recordOf (.beq 0 0 8)).isBranch = true ∧
      decode 0x010000ef .four = .ok (.jal 1 16) ∧ (recordOf (.jal 1 16)).op = .jal ∧
      decode 0x8082 .two = .ok (.cJr 1) ∧ (recordOf (.cJr 1)).isReturn = true ∧
      decode 0x00a00093 .four = .ok (.addi 1 0 10) ∧ (recordOf (.addi 1 0 10)).isBranch = false ∧
      (let s := { block 1 [] with cfg := { Config.atReset with ebr := true, ras := true }, rasStack := [0x204] };
        (s.predictOp (newMicroOp 0 .two 0x8082)).predTaken = true ∧
        (s.predictOp (newMicroOp 0 .four 0x010000ef)).predTaken = true ∧
        ({ s with rasStack := [] }.predictOp (newMicroOp 0 .two 0x8082)).predTaken = false) := by decide

/-- The spec's own row: MEM_BASE = 0x1000, MEM_SIZE = 0x1000, ENTRY = 0. -/
theorem test_witness_EntryOutsideMemoryFaultsInCycleFive :
    let p : Platform := { Platform.atReset with memBase := 0x1000, memSize := 0x1000 }
    ∃ s, launch .pipeline { Config.atReset with budget := 5 } p [] [] = .ok s ∧ 5 ≤ s.cfg.budget ∧
      ¬ InRegion s p.entry 2 ∧ s.pipelineRun.status = .error (.fetchFault 0) ∧ s.pipelineRun.metrics.cycles = 5 :=
  ⟨_, rfl, by decide, by unfold InRegion; decide, by decide, by decide⟩

theorem test_witness_OneInstructionThroughTheStages :
    let s := start [(1, 5)] 0 32 0x00108193
    s.status = .running ∧ s.fetchWord s.pc = some (.four, 0x00108193) ∧ decode 0x00108193 .four = .ok (.addi 3 1 1) ∧
      OperandFrom [] (.val 5) (s.operandA (recordOf (.addi 3 1 1))) ∧
      OperandFrom [] (.val 0) (s.operandB (recordOf (.addi 3 1 1))) ∧
      ∃ t, s.referenceStep = .next t ∧ t.status = .running :=
  ⟨rfl, by decide, by decide, .inl rfl, .inl rfl, _, rfl, rfl⟩

/-- `addi x1, x0, 10` in lane 0 and, in lane 1, `addi x3, x1, 1` that reads it by Lane(0); and a pending error. -/
theorem test_witness_OneInstructionThroughTheStages_lane :
    let s := start [(1, 10)] 4 32 0x00108193
    let u : MicroOp := { op 4 0x00108193 with srcA := .lane 0 }
    let l : Lanes := [some (op 0 0x00a00093), some u, none, some (faultSlot 8)]
    s.fetchWord s.pc = some (.four, 0x00108193) ∧
      OperandFrom [some addi10] (.lane 0) (s.operandA (recordOf (.addi 3 1 1))) ∧
      l[1]? = some (some u) ∧ u.fault = none ∧ u.dec = some (recordOf (.addi 3 1 1)) ∧
      executeLanes [] [some { op 0 0x00a00093 with srcA := .val 0 }] = [some addi10] ∧
      OperandFrom ((executeLanes [] l).take 1) u.srcA 10 ∧ OperandFrom ((executeLanes [] l).take 1) u.srcB 0 ∧
      (faultSlot 8).fault ≠ none ∧ l[2]? = some none :=
  ⟨by decide, .inr ⟨0, addi10, rfl, rfl, rfl⟩, rfl, rfl, rfl, by decide, .inr ⟨0, addi10, rfl, rfl, rfl⟩, .inl rfl,
    by decide, rfl⟩

/-- A program that ends and one that its budget ends. -/
theorem test_witness_TandemEquivalence :
    (∃ s, launch .pipeline .atReset .atReset [] [(0, 0x73), (2, 0x10)] = .ok s ∧
      (State.pipelineTurns 5 s).status = .halted .ebreak ∧ (State.pipelineTurns 5 s).metrics.isaRetired = 1) ∧
    (∃ s, launch .pipeline { Config.atReset with budget := 3 } .atReset [] [(0, 0x73), (2, 0x10)] = .ok s ∧
      s.pipelineRun.status = .notHalted ∧ s.pipelineRun.metrics.isaRetired = 0) :=
  ⟨⟨_, rfl, by decide⟩, ⟨_, rfl, by decide⟩⟩

/-- The invariant holds with an instruction in flight: `addi x1, x0, 10` fetched at 0 by W = 1. -/
theorem test_witness_InvariantIsKept_in_flight :
    ({ block 1 [] with ifid := holding [some (op 0 0x00a00093)], pc := 4 } : State).Inv := by
  have empty : (Latch.empty 1).Ok { Config.atReset with width := 1 } :=
    ⟨rfl, rfl, fun u h => by simp [Latch.empty, bubbles] at h⟩
  have full : (holding [some (op 0 0x00a00093)]).Ok { Config.atReset with width := 1 } := by
    refine ⟨rfl, rfl, fun u h => ?_⟩
    have hu : u = op 0 0x00a00093 := by simpa [holding] using h
    subst hu
    refine ⟨rfl, rfl, rfl, fun i h => (Option.some_ne_none i).elim h.symm, fun d h => ?_, ?_⟩
    · exact ⟨.addi 1 0 10, by decide, (Option.some.inj h).symm⟩
    · exact (Option.some_ne_none (recordOf (.addi 1 0 10)) : _)
  constructor <;> first | exact empty | exact full | decide | simp [block, State.initial, Latch.empty, Even64]

end Sys2Proof.Tests
end

/-!
PROOF. Memory accesses and the fetched word by bytes (spec/20_memory.md R40, R41): what a read, a write and an
instruction fetch of a state do, for an access of any number of bytes.
-/

namespace Sys2Proof.Machine

/-! ## `State.memRead` and `State.memWrite` -/

theorem State.memRead_eq_littleEndianSum (s : State) (a : Word) (n : Nat) :
    s.memRead a n = littleEndianSum s.mem a.toNat n := Memory.readLE_eq_sum _ _ _

theorem State.byte_memWrite {s : State} (h : s.mem.wf) (a : Word) {n i : Nat} (v : Word) (hi : i < n) :
    (s.memWrite a n v).mem.byte (a.toNat + i) = v.extractLsb' (8 * i) 8 := by
  rw [State.memWrite_mem, Memory.byte_writeLE h, if_pos (by omega), Nat.add_sub_cancel_left, byte_of_word]

theorem State.memWrite_sameBytesOutside (s : State) (a : Word) (n : Nat) (v : Word) :
    SameBytesOutside s (s.memWrite a n v) a.toNat n :=
  fun _ hb => Memory.byte_writeLE_outside s.mem v.toNat hb

/-- A read of the bytes just written gives the number written, cut to their width. -/
theorem Memory.readLE_writeLE {m : Memory} (h : m.wf) (a n v : Nat) : (m.writeLE a n v).readLE a n = v % 256 ^ n := by
  induction n generalizing m a v with
  | zero => simp [Memory.readLE, Nat.mod_one]
  | succ n ih =>
    have first : ((m.writeLE a (n + 1) v).byte a).toNat = v % 256 := by simp [Memory.byte_writeLE h]
    have rest : (m.writeLE a (n + 1) v).readLE (a + 1) n = v / 256 % 256 ^ n := ih (Memory.setByte_wf h a _) _ _
    rw [Memory.readLE, first, rest, pow_succ', Nat.mod_mul]

theorem State.memRead_memWrite {s : State} (h : s.mem.wf) (a : Word) (n : Nat) (v : Word) :
    (s.memWrite a n v).memRead a n = v.toNat % 2 ^ (8 * n) :=
  (Memory.readLE_writeLE h _ n _).trans (by rw [show (256 : Nat) = 2 ^ 8 from rfl, ← pow_mul])

/-! ## `State.fetchWord` -/

/-- Everything a fetched instruction says: its bytes are in range, its first parcel gives its length, and its word is
what those bytes hold. -/
theorem State.fetchWord_eq_some {s : State} {a : Word} {len : Len} {word : InstWord}
    (h : s.fetchWord a = some (len, word)) :
    s.inRange a len.bytes = true ∧ lenOfParcel (BitVec.ofNat 16 (s.memRead a 2)) = len ∧
      word = BitVec.ofNat 32 (s.memRead a len.bytes) := by
  cases hl : lenOfParcel (BitVec.ofNat 16 (s.memRead a 2)) with
  | two =>
    simp only [State.fetchWord, hl] at h
    split_ifs at h with h2
    cases h
    exact ⟨h2, rfl, rfl⟩
  | four =>
    simp only [State.fetchWord, hl] at h
    split_ifs at h with h2 h4
    cases h
    exact ⟨h4, rfl, rfl⟩

theorem pow_lenBytes_le (len : Len) : 256 ^ len.bytes ≤ 2 ^ 32 := by cases len <;> decide

/-- The fetched word holds all of its bytes: none is cut off at 32 bits. -/
theorem State.fetchWord_toNat {s : State} {a : Word} {len : Len} {word : InstWord}
    (h : s.fetchWord a = some (len, word)) : word.toNat = s.memRead a len.bytes := by
  obtain ⟨-, -, rfl⟩ := State.fetchWord_eq_some h
  have hlt : s.memRead a len.bytes < 256 ^ len.bytes := Memory.readLE_lt _ _ _
  rw [BitVec.toNat_ofNat, Nat.mod_eq_of_lt (hlt.trans_le (pow_lenBytes_le len))]

/-! ## The obligation -/

/-- Settles O21, from the rules for a read, a write and a fetch; none of them needs the access to be in range or its
width to be 1, 2, 4 or 8. -/
theorem memoryAccessByBytes : Obligations.MemoryAccessByBytes :=
  ⟨fun s a n v hwf _ _ => ⟨s.memRead_eq_littleEndianSum a n, fun _ hi => State.byte_memWrite hwf a v hi,
      s.memWrite_sameBytesOutside a n v, State.memRead_memWrite hwf a n v⟩,
    fun s a len _ hf => (State.fetchWord_toNat hf).trans (s.memRead_eq_littleEndianSum a len.bytes)⟩

end Sys2Proof.Machine

/-!
PROOF. Writeback (spec/40_pipeline_cycle.md R92 to R95): what the lanes commit, in lane order, and where a pending
error ends the cycle.
-/

namespace Sys2Proof.Machine

/-! ## The register commit of one micro-op -/

theorem MicroOp.writes_iff_flag (u : MicroOp) (r : Reg) :
    u.writes r ↔ (u.flag fun d => d.regWrite && d.rd == r) = true ∧ r ≠ 0 := by
  cases hd : u.dec <;> simp [MicroOp.writes, MicroOp.flag, hd, and_comm]

theorem State.commitReg_reg_of_writes {u : MicroOp} {r : Reg} (h : u.writes r) (s : State) :
    (s.commitReg u).reg r = u.result := by
  rw [s.commitReg_reg, if_pos ((u.writes_iff_flag r).1 h)]

theorem State.commitReg_reg_of_not_writes {u : MicroOp} {r : Reg} (h : ¬ u.writes r) (s : State) :
    (s.commitReg u).reg r = s.reg r := by
  rw [s.commitReg_reg, if_neg (mt (u.writes_iff_flag r).2 h)]

@[simp] theorem State.countRetired_reg (s : State) (u : MicroOp) (r : Reg) : (s.countRetired u).reg r = s.reg r := rfl

/-! ## `retireLanes` -/

@[simp] theorem retireLanes_bubble (l : Lanes) (s : State) : retireLanes (none :: l) s = retireLanes l s := rfl

theorem retireLanes_plain {u : MicroOp} (h : u.plain) (l : Lanes) (s : State) :
    retireLanes (some u :: l) s = retireLanes l ((s.commitReg u).countRetired u) := by
  obtain ⟨hf, d, hd, h1, h2, h3⟩ := h
  simp only [retireLanes, State.retireOp_plain hf hd h1 h2 h3]

theorem retireLanes_fault {u : MicroOp} {e : RunError} (h : u.fault = some e) (l : Lanes) (s : State) :
    retireLanes (some u :: l) s = s.raise e := by
  simp only [retireLanes, State.retireOp_fault h]

theorem PlainLanes.head {u : MicroOp} {l : Lanes} (h : PlainLanes (some u :: l)) : u.plain := h u List.mem_cons_self

/-- Everything plain lanes change: the registers, and the two counters of R95. -/
theorem retireLanes_eq_of_plain {l : Lanes} (h : PlainLanes l) (s : State) :
    ∃ regs, retireLanes l s =
      { s with
        regs := regs
        metrics := { s.metrics with
          isaRetired := s.metrics.isaRetired + l.countP Option.isSome
          committed := s.metrics.committed + l.countP fun slot => slot.any fun u => !u.fusedPrev } } := by
  induction l generalizing s with
  | nil => exact ⟨s.regs, rfl⟩
  | cons slot l ih =>
    cases slot with
    | none => simpa using ih h.tail s
    | some u =>
      obtain ⟨regs, hc⟩ := s.commitReg_eq u
      obtain ⟨regs', hl⟩ := ih h.tail ((s.commitReg u).countRetired u)
      refine ⟨regs', ?_⟩
      rw [retireLanes_plain h.head, hl, hc]
      cases hu : u.fusedPrev <;> simp [State.countRetired, State.count, hu] <;> omega

theorem retireLanes_reg_of_no_writer {l : Lanes} {r : Reg} (h : PlainLanes l) (hw : ∀ q, some q ∈ l → ¬ q.writes r)
    (s : State) : (retireLanes l s).reg r = s.reg r := by
  induction l generalizing s with
  | nil => rfl
  | cons slot l ih =>
    have ih := ih h.tail fun q hq => hw q (List.mem_cons_of_mem _ hq)
    cases slot with
    | none => exact ih s
    | some u =>
      rw [retireLanes_plain h.head, ih, State.countRetired_reg,
        State.commitReg_reg_of_not_writes (hw u List.mem_cons_self)]

/-- The youngest writer of a register gives it its result (R94). -/
theorem retireLanes_reg_of_last_writer {pre post : Lanes} {u : MicroOp} {r : Reg}
    (h : PlainLanes (pre ++ some u :: post)) (hu : u.writes r) (hw : ∀ q, some q ∈ post → ¬ q.writes r) (s : State) :
    (retireLanes (pre ++ some u :: post) s).reg r = u.result := by
  have hpre : PlainLanes pre := fun q hq => h q (List.mem_append_left _ hq)
  have hrest : PlainLanes (some u :: post) := fun q hq => h q (List.mem_append_right _ hq)
  rw [retireLanes_append hpre, retireLanes_plain hrest.head, retireLanes_reg_of_no_writer hrest.tail hw,
    State.countRetired_reg, State.commitReg_reg_of_writes hu]

/-- Settles O41: the register clauses by the last writer and the absence of one, the others from the exact result. -/
theorem writebackCommitsInLaneOrder : Obligations.WritebackCommitsInLaneOrder := by
  intro s l h
  refine ⟨fun pre u post r hl hu hw => ?_, fun r hw => retireLanes_reg_of_no_writer h hw s, ?_⟩
  · subst hl
    exact retireLanes_reg_of_last_writer h hu hw s
  · obtain ⟨regs, hr⟩ := retireLanes_eq_of_plain h s
    rw [hr]
    exact ⟨rfl, fun _ => rfl, rfl, rfl, rfl, rfl, rfl, rfl⟩

/-! ## The cycle that a pending error ends -/

/-- No stage after Writeback runs, and no lane behind the error commits (R71, R93). -/
theorem State.cycle_of_pending_error {s : State} {pre rest : Lanes} {u : MicroOp} {e : RunError}
    (hl : s.memwb.lanes = pre ++ some u :: rest) (hpre : PlainLanes pre) (hu : u.fault = some e) (units : Units) :
    s.cycle units = (retireLanes pre s.beginCycle).raise e := by
  have hwb : s.beginCycle.writebackStage = (retireLanes pre s.beginCycle).raise e := by
    have hlanes : s.beginCycle.memwb.lanes = pre ++ some u :: rest := hl
    rw [State.writebackStage, hlanes, retireLanes_append hpre, retireLanes_fault hu]
  rw [State.cycle_ended (by simp [hwb]), hwb]

/-- Settles O42: the cycle is the commit of the older lanes and the error, and that commit changes registers and two
counters only. -/
theorem writebackRaisesThePendingError : Obligations.WritebackRaisesThePendingError := by
  intro s pre rest u e hl hpre hu
  have hcycle := State.cycle_of_pending_error hl hpre hu .reference
  obtain ⟨regs, hr⟩ := retireLanes_eq_of_plain hpre s.beginCycle
  refine ⟨hcycle, ?_⟩
  rw [hcycle, hr]
  exact ⟨rfl, fun _ => rfl, rfl, rfl, rfl, rfl⟩

end Sys2Proof.Machine

/-!
PROOF. Issue (spec/40_pipeline_cycle.md R82 to R84): when every planned lane has its operands, what DecodeStage hands to
IDEX and what it sends back to Fetch.
-/

namespace Sys2Proof.Machine

/-! ## Operands of the planned lanes -/

theorem State.resolve_eq_none_iff (s : State) (reads : Option Reg) (l : LaneSource) :
    s.resolve reads l = none ↔ MustWait s reads l := by
  cases reads with
  | none => simp [State.resolve, MustWait]
  | some r => cases l <;> simp [State.resolve, MustWait]

theorem State.exists_resolve_of_not_mustWait {s : State} {reads : Option Reg} {l : LaneSource}
    (h : ¬ MustWait s reads l) : ∃ a, s.resolve reads l = some a :=
  Option.ne_none_iff_exists'.1 (mt (s.resolve_eq_none_iff reads l).1 h)

/-- The micro-op `u` is the planned lane `p` with its operands. -/
def Issued (s : State) (p : Planned) (u : MicroOp) : Prop :=
  ∃ a b, s.resolve p.op.readsA p.laneA = some a ∧ s.resolve p.op.readsB p.laneB = some b ∧
    u = { p.op with srcA := a, srcB := b }

theorem State.resolveLane_eq_some_iff (s : State) (p : Planned) (u : MicroOp) :
    s.resolveLane p = some u ↔ Issued s p u := by
  unfold State.resolveLane Issued
  cases s.resolve p.op.readsA p.laneA <;> cases s.resolve p.op.readsB p.laneB <;> simp [eq_comm]

/-- When no planned lane must wait, every one of them gets its operands, in order. -/
theorem State.resolveAll_of_no_wait {s : State} {plan : List Planned}
    (h : ∀ p ∈ plan, ¬ MustWait s p.op.readsA p.laneA ∧ ¬ MustWait s p.op.readsB p.laneB) :
    ∃ us, s.resolveAll plan = some us ∧ List.Forall₂ (Issued s) plan us := by
  induction plan with
  | nil => exact ⟨[], rfl, .nil⟩
  | cons p rest ih =>
    obtain ⟨us, hus, hrest⟩ := ih fun q hq => h q (List.mem_cons_of_mem _ hq)
    obtain ⟨hA, hB⟩ := h p List.mem_cons_self
    obtain ⟨a, ha⟩ := State.exists_resolve_of_not_mustWait hA
    obtain ⟨b, hb⟩ := State.exists_resolve_of_not_mustWait hB
    have hp : Issued s p _ := ⟨a, b, ha, hb, rfl⟩
    exact ⟨_ :: us, by simp [State.resolveAll, (s.resolveLane_eq_some_iff p _).2 hp, hus], .cons hp hrest⟩

/-! ## Packed lanes -/

theorem packed_getElem? {ops : List MicroOp} {k : Nat} (n : Nat) (h : k < ops.length) :
    (ops.map some ++ bubbles n)[k]? = some ops[k]? := by
  simp [List.getElem?_append, h]

/-- Behind the micro-ops of a packed bundle come bubbles. -/
theorem eq_none_of_packed_getElem? {ops : List MicroOp} {n k : Nat} {slot : Option MicroOp} (hk : ops.length ≤ k)
    (h : (ops.map some ++ bubbles n)[k]? = some slot) : slot = none := by
  rw [List.getElem?_append_right (by simpa using hk)] at h
  exact List.eq_of_mem_replicate (List.mem_of_getElem? h)

/-! ## `State.issue` -/

theorem State.issue_idex (s : State) (us : List MicroOp) :
    (s.issue us).idex = s.idex.withLanes (packLanes s.cfg.width us) := by
  obtain ⟨pc, m, h⟩ := s.issue_keeps us
  rw [h]

theorem State.issue_ifid (s : State) (us : List MicroOp) : (s.issue us).ifid = s.ifid := by
  obtain ⟨pc, m, h⟩ := s.issue_keeps us
  rw [h]

theorem State.issue_fetchMode (s : State) (us : List MicroOp) : (s.issue us).fetchMode = s.fetchMode := by
  obtain ⟨pc, m, h⟩ := s.issue_keeps us
  rw [h]

theorem State.issue_split {s : State} {us : List MicroOp} {u : MicroOp}
    (h : s.ifid.lanes[us.length]? = some (some u)) :
    (s.issue us).pc = u.pc ∧ (s.issue us).metrics = { s.metrics with splits := s.metrics.splits + 1 } := by
  simp [State.issue, h]

theorem State.issue_whole {s : State} {us : List MicroOp}
    (h : ∀ slot, s.ifid.lanes[us.length]? = some slot → slot = none) :
    (s.issue us).pc = s.pc ∧ (s.issue us).metrics = s.metrics := by
  unfold State.issue
  split
  case h_1 u hu => cases h _ hu
  case h_2 => exact ⟨rfl, rfl⟩

/-! ## The obligation -/

/-- Settles O49: with no lane that must wait, DecodeStage is the issue of the resolved plan. -/
theorem issueSendsTheRestBack : Obligations.IssueSendsTheRestBack := by
  intro s ops n hifid hwidth plan hready
  obtain ⟨us, hus, hissued⟩ := State.resolveAll_of_no_wait hready
  have hdecode : s.decodeStage = s.issue us := by
    rcases s.decodeStage_cases with ⟨hnone, -⟩ | ⟨us', hus', h⟩
    · exact absurd (hus.symm.trans hnone) (by simp)
    · rwa [Option.some.inj (hus.symm.trans hus')]
  have hlen : plan.length = us.length := hissued.length_eq
  have hfits : us.length ≤ s.cfg.width := by
    have hplan : plan.length ≤ s.ifid.lanes.length := planLanes_length ..
    have hlanes : s.ifid.lanes.length = ops.length + n := by simp [hifid]
    omega
  rw [hdecode, State.issue_idex, Latch.withLanes_lanes, hlen]
  refine ⟨packLanes_length hfits, fun k p hp => ?_, fun k slot => eq_none_of_packed_getElem?,
    fun u hu => State.issue_split ?_, fun hle => State.issue_whole fun slot hslot => ?_, s.issue_ifid us,
    s.issue_fetchMode us⟩
  · obtain ⟨hk, rfl⟩ := List.getElem?_eq_some_iff.1 hp
    have hk' : k < us.length := hlen ▸ hk
    obtain ⟨a, b, ha, hb, hu⟩ := hissued.get hk hk'
    refine ⟨a, b, ha, hb, (packed_getElem? _ hk').trans ?_⟩
    rw [List.getElem?_eq_getElem hk']
    exact congrArg (some ∘ some) hu
  · rw [hifid, packed_getElem? n (List.getElem?_eq_some_iff.1 hu).1, hu]
  · rw [hifid] at hslot
    exact eq_none_of_packed_getElem? hle hslot

end Sys2Proof.Machine

/-!
PROOF. The split point of an IFID bundle (spec/41_hazards_and_flush.md R103, R110): which lanes `planLanes` plans, what
mark each carries and where its operands come from, lane by lane.
-/

namespace Sys2Proof.Machine

/-! ## The youngest producer -/

/-- Everything `youngestFrom` can answer (R103, R105): no lane produces the register, or the answer is the last lane that
does. -/
theorem youngestFrom_cases (r : Reg) (i : Nat) (l : Lanes) :
    (youngestFrom r i l = none ∧ ∀ p, some p ∈ l → p.produces r = false) ∨
      ∃ pre q post, l = pre ++ some q :: post ∧ q.produces r = true ∧
        (∀ p, some p ∈ post → p.produces r = false) ∧ youngestFrom r i l = some (i + pre.length, q) := by
  induction l generalizing i with
  | nil => exact .inl ⟨rfl, by simp⟩
  | cons slot rest ih =>
    rcases ih (i + 1) with ⟨hrest, hno⟩ | ⟨pre, q, post, rfl, hq, hpost, hrest⟩
    · match slot with
      | none => exact .inl ⟨by simp [youngestFrom, hrest], by simpa using hno⟩
      | some u =>
        cases hu : u.produces r with
        | true => exact .inr ⟨[], u, rest, rfl, hu, hno, by simp [youngestFrom, hrest, hu]⟩
        | false =>
          refine .inl ⟨by simp [youngestFrom, hrest, hu], fun p hp => ?_⟩
          rcases List.mem_cons.1 hp with hp | hp
          · rwa [Option.some.inj hp]
          · exact hno p hp
    · refine .inr ⟨slot :: pre, q, post, rfl, hq, hpost, ?_⟩
      simp only [youngestFrom, hrest, List.length_cons]
      rw [Nat.add_right_comm, Nat.add_assoc]

/-- At most one lane is the youngest producer. -/
theorem YoungestBefore.unique {ops : List MicroOp} {k i j : Nat} {r : Reg} (hi : YoungestBefore ops k i r)
    (hj : YoungestBefore ops k j r) : i = j := by
  obtain ⟨hik, ⟨p, hp, hpr⟩, hiLast⟩ := hi
  obtain ⟨hjk, ⟨q, hq, hqr⟩, hjLast⟩ := hj
  rcases lt_trichotomy i j with h | h | h
  · exact absurd hqr (by simp [hiLast j q h hjk hq])
  · exact h
  · exact absurd hpr (by simp [hjLast i p h hik hp])

/-- `youngest` among the lanes before lane `k` decides `YoungestBefore`. -/
theorem youngest_take_cases (ops : List MicroOp) (k : Nat) (r : Reg) :
    (youngest r ((ops.take k).map some) = none ∧ ∀ j, ¬ YoungestBefore ops k j r) ∨
      ∃ j q, youngest r ((ops.take k).map some) = some (j, q) ∧ ops[j]? = some q ∧ YoungestBefore ops k j r := by
  have htake : ∀ {m : Nat}, m < k → ((ops.take k).map some)[m]? = ops[m]?.map some := fun hm => by
    rw [List.getElem?_map, List.getElem?_take_of_lt hm]
  rcases youngestFrom_cases r 0 ((ops.take k).map some) with ⟨hnone, hno⟩ | ⟨pre, q, post, hl, hq, hpost, hsome⟩
  · refine .inl ⟨hnone, fun j hj => ?_⟩
    obtain ⟨hjk, ⟨p, hp, hpr⟩, -⟩ := hj
    have hmem : some p ∈ (ops.take k).map some := List.mem_of_getElem? (i := j) (by rw [htake hjk, hp]; rfl)
    exact absurd hpr (by simp [hno p hmem])
  · rw [Nat.zero_add] at hsome
    have hlt : pre.length < k := by
      have hlen := congrArg List.length hl
      simp only [List.length_map, List.length_take, List.length_append, List.length_cons] at hlen
      omega
    have hget : ops[pre.length]? = some q := by
      have hmap := htake hlt
      rw [hl] at hmap
      simpa using hmap.symm
    refine .inr ⟨pre.length, q, hsome, hget, hlt, ⟨q, hget, hq⟩, fun m p hm hmk hp => hpost p ?_⟩
    have hpm : (pre ++ some q :: post)[m]? = some (some p) := by rw [← hl, htake hmk, hp]; rfl
    obtain ⟨d, rfl⟩ := Nat.exists_eq_add_of_lt hm
    refine List.mem_of_getElem? (i := d) ?_
    rwa [List.getElem?_append_right (by omega), show pre.length + d + 1 - pre.length = d + 1 by omega,
      List.getElem?_cons_succ] at hpm

/-! ## The lane before lane `k` -/

/-- The lanes before lane `k` end in lane `k - 1`. -/
theorem getLast?_take_succ {ops : List MicroOp} {k : Nat} (hk : k < ops.length) :
    (ops.take (k + 1)).getLast? = some ops[k] := by
  rw [← List.take_concat_get' ops k hk, List.getLast?_concat]

/-- The mark that `planLanes` gives lane `k` is that of R110. -/
theorem fusedAt_eq (c : Config) {ops : List MicroOp} {k : Nat} (hk : k < ops.length) :
    fusedAt c ops k =
      (c.fusion && !fusedAt c ops (k - 1) && (ops.take k).getLast?.any fun p => fusiblePair p ops[k]) := by
  cases k with
  | zero => simp [fusedAt]
  | succ m =>
    have hm : m < ops.length := by omega
    simp [fusedAt, getLast?_take_succ hm, hk, hm]

/-- The first split condition of R103. -/
theorem any_serialising_getLast?_take {ops : List MicroOp} {k : Nat} (hk : k < ops.length) :
    (ops.take k).getLast?.any MicroOp.serialising = true ↔
      ∃ m q, k = m + 1 ∧ ops[m]? = some q ∧ q.serialising = true := by
  cases k with
  | zero => simp
  | succ m =>
    have hm : m < ops.length := by omega
    simp [getLast?_take_succ hm, hm]

/-! ## Where an operand of lane `k` comes from -/

/-- What `planLanes` finds for an operand of lane `k` of the bundle `ops`. -/
def sourceAt (c : Config) (ops : List MicroOp) (k : Nat) (reads : Option Reg) : LaneSource :=
  laneSource c (ops.take k) (fusedAt c ops k) reads

/-- Everything `sourceAt` can answer for a register (R103 item 2). -/
theorem sourceAt_cases (c : Config) {ops : List MicroOp} {k : Nat} (hk : k < ops.length) (r : Reg) :
    ((∀ j, ¬ YoungestBefore ops k j r) ∧ sourceAt c ops k (some r) = .outside) ∨
      ∃ j, YoungestBefore ops k j r ∧
        ((Permitted c ops k j ∧ sourceAt c ops k (some r) = .lane j) ∨
          (¬ Permitted c ops k j ∧ sourceAt c ops k (some r) = .split)) := by
  rcases youngest_take_cases ops k r with ⟨hnone, hno⟩ | ⟨j, q, hsome, hq, hj⟩
  · exact .inl ⟨hno, by simp only [sourceAt, laneSource, hnone]⟩
  · refine .inr ⟨j, hj, ?_⟩
    have hlen : (ops.take k).length = k := List.length_take_of_le hk.le
    have hperm : Permitted c ops k j ↔
        q.flag Decoded.isLoad = false ∧ (c.cascade = true ∨ (j + 1 = k ∧ fusedAt c ops k = true)) := by
      simp [Permitted, hq]
    rw [hperm]
    simp only [sourceAt, laneSource, hsome, hlen]
    cases q.flag Decoded.isLoad with
    | true => simp
    | false =>
      by_cases hfeeds : c.cascade = true ∨ (j + 1 = k ∧ fusedAt c ops k = true)
      · exact .inl ⟨⟨rfl, hfeeds⟩, by simp [and_comm, hfeeds]⟩
      · exact .inr ⟨fun h => hfeeds h.2, by simp [and_comm, hfeeds]⟩

@[simp] theorem sourceAt_none (c : Config) (ops : List MicroOp) (k : Nat) : sourceAt c ops k none = .outside := rfl

/-- The second split condition of R103, for one operand. -/
theorem sourceAt_eq_split_iff (c : Config) {ops : List MicroOp} {k : Nat} (hk : k < ops.length) (reads : Option Reg) :
    sourceAt c ops k reads = .split ↔ ∃ r j, reads = some r ∧ YoungestBefore ops k j r ∧ ¬ Permitted c ops k j := by
  cases reads with
  | none => simp
  | some r =>
    rcases sourceAt_cases c hk r with ⟨hno, h⟩ | ⟨j, hj, ⟨hperm, h⟩ | ⟨hperm, h⟩⟩
    · simp [h, hno]
    · simp only [h, reduceCtorEq, false_iff]
      rintro ⟨r', i, hr, hi, hnot⟩
      cases hr
      exact hnot (hi.unique hj ▸ hperm)
    · exact iff_of_true h ⟨r, j, rfl, hj, hperm⟩

/-- An operand that does not split the bundle comes from where R103 says. -/
theorem comesFrom_sourceAt {c : Config} {ops : List MicroOp} {k : Nat} {reads : Option Reg} (hk : k < ops.length)
    (h : sourceAt c ops k reads ≠ .split) : ComesFrom ops k reads (sourceAt c ops k reads) := by
  rintro r rfl
  rcases sourceAt_cases c hk r with ⟨hno, ho⟩ | ⟨j, hj, ⟨-, hl⟩ | ⟨-, hs⟩⟩
  · exact ⟨fun j hj => absurd hj (hno j), fun _ => ho⟩
  · exact ⟨fun i hi => hi.unique hj ▸ hl, fun hno => absurd hj (hno j)⟩
  · exact absurd hs h

/-! ## `planLanes`, lane by lane -/

/-- Lane `k` meets a split condition of R103 exactly when `planLanes` stops at it. -/
theorem splitAt_iff (c : Config) {ops : List MicroOp} {k : Nat} (hk : k < ops.length) :
    SplitAt c ops k ↔
      (ops.take k).getLast?.any MicroOp.serialising = true ∨ sourceAt c ops k ops[k].readsA = .split ∨
        sourceAt c ops k ops[k].readsB = .split := by
  rw [any_serialising_getLast?_take hk, sourceAt_eq_split_iff c hk, sourceAt_eq_split_iff c hk]
  refine or_congr_right ⟨?_, ?_⟩
  · rintro ⟨u, r, j, hu, hreads, hsplit⟩
    obtain rfl : ops[k] = u := by simpa [hk] using hu
    exact hreads.imp (fun hr => ⟨r, j, hr, hsplit⟩) fun hr => ⟨r, j, hr, hsplit⟩
  · rintro (⟨r, j, hr, hsplit⟩ | ⟨r, j, hr, hsplit⟩)
    · exact ⟨ops[k], r, j, by simp [hk], .inl hr, hsplit⟩
    · exact ⟨ops[k], r, j, by simp [hk], .inr hr, hsplit⟩

/-- Lane 0 meets no split condition: no lane stands before it. -/
theorem not_splitAt_zero (c : Config) (ops : List MicroOp) : ¬ SplitAt c ops 0 := by
  rintro (⟨m, q, hm, -⟩ | ⟨u, r, j, -, -, ⟨hj, -⟩, -⟩)
  · omega
  · omega

/-- The plan of the lanes of a packed bundle from lane `k` on. -/
def planFrom (c : Config) (ops : List MicroOp) (n k : Nat) : List Planned :=
  planLanes c (ops.take k) (fusedAt c ops (k - 1)) ((ops.drop k).map some ++ bubbles n)

/-- The micro-op `u` as the plan has it at lane `k`. -/
def plannedAt (c : Config) (ops : List MicroOp) (k : Nat) (u : MicroOp) : Planned :=
  ⟨{ u with fusedPrev := fusedAt c ops k }, sourceAt c ops k u.readsA, sourceAt c ops k u.readsB⟩

/-- Behind the last micro-op nothing is planned. -/
theorem planFrom_of_le {ops : List MicroOp} {k : Nat} (c : Config) (n : Nat) (hk : ops.length ≤ k) :
    planFrom c ops n k = [] := by
  unfold planFrom
  rw [List.drop_of_length_le hk]
  cases n with
  | zero => rfl
  | succ n => rfl

theorem planFrom_eq (c : Config) {ops : List MicroOp} (n : Nat) {k : Nat} (hk : k < ops.length) :
    planFrom c ops n k =
      if (ops.take k).getLast?.any MicroOp.serialising = true ∨ sourceAt c ops k ops[k].readsA = .split ∨
        sourceAt c ops k ops[k].readsB = .split then []
      else plannedAt c ops k ops[k] :: planFrom c ops n (k + 1) := by
  have htake : ops.take k ++ [ops[k]] = ops.take (k + 1) := List.take_concat_get' ops k hk
  unfold planFrom
  rw [List.drop_eq_getElem_cons hk]
  simp only [List.map_cons, List.cons_append, planLanes, ← fusedAt_eq c hk, htake, Bool.or_eq_true, decide_eq_true_eq,
    or_assoc, sourceAt, plannedAt, Nat.add_sub_cancel]

theorem planFrom_of_splitAt {c : Config} {ops : List MicroOp} {k : Nat} (n : Nat) (hk : k < ops.length)
    (h : SplitAt c ops k) : planFrom c ops n k = [] := by
  rw [planFrom_eq c n hk, if_pos ((splitAt_iff c hk).1 h)]

theorem planFrom_of_not_splitAt {c : Config} {ops : List MicroOp} {k : Nat} (n : Nat) (hk : k < ops.length)
    (h : ¬ SplitAt c ops k) : planFrom c ops n k = plannedAt c ops k ops[k] :: planFrom c ops n (k + 1) := by
  rw [planFrom_eq c n hk, if_neg (mt (splitAt_iff c hk).2 h)]

/-! ## Where the plan ends and what it holds -/

/-- `plan` is what R103 plans of the bundle `ops` from lane `k` on: the lanes up to the first one that meets a split
condition, each as `plannedAt` has it. -/
structure PlansFrom (c : Config) (ops : List MicroOp) (k : Nat) (plan : List Planned) : Prop where
  fits : k + plan.length ≤ ops.length
  noSplit : ∀ i, k ≤ i → i < k + plan.length → ¬ SplitAt c ops i
  stops : k + plan.length < ops.length → SplitAt c ops (k + plan.length)
  lanes : ∀ i p u, plan[i]? = some p → ops[k + i]? = some u → p = plannedAt c ops (k + i) u

theorem PlansFrom.nil {c : Config} {ops : List MicroOp} {k : Nat} (hk : k ≤ ops.length)
    (h : k < ops.length → SplitAt c ops k) : PlansFrom c ops k [] where
  fits := hk
  noSplit i hi hlt := absurd hlt (by simpa using hi)
  stops := h
  lanes := by simp

theorem PlansFrom.cons {c : Config} {ops : List MicroOp} {k : Nat} {plan : List Planned} (hk : k < ops.length)
    (h : ¬ SplitAt c ops k) (hplan : PlansFrom c ops (k + 1) plan) :
    PlansFrom c ops k (plannedAt c ops k ops[k] :: plan) := by
  have hlen : k + (plannedAt c ops k ops[k] :: plan).length = k + 1 + plan.length := by simp; omega
  refine ⟨hlen ▸ hplan.fits, fun i hi hlt => ?_, hlen ▸ hplan.stops, fun i p u hp hu => ?_⟩
  · rcases hi.eq_or_lt with rfl | hi
    · exact h
    · exact hplan.noSplit i hi (hlen ▸ hlt)
  · cases i with
    | zero =>
      obtain rfl : ops[k] = u := by simpa [hk] using hu
      simpa [eq_comm] using hp
    | succ i =>
      have hadd : k + (i + 1) = k + 1 + i := by omega
      rw [hadd] at hu ⊢
      exact hplan.lanes i p u (by simpa using hp) hu

theorem planFrom_plansFrom (c : Config) (ops : List MicroOp) (n k : Nat) (hk : k ≤ ops.length) :
    PlansFrom c ops k (planFrom c ops n k) := by
  rcases hk.eq_or_lt with rfl | hlt
  · rw [planFrom_of_le c n le_rfl]
    exact .nil le_rfl fun h => absurd h (lt_irrefl _)
  · by_cases h : SplitAt c ops k
    · rw [planFrom_of_splitAt n hlt h]
      exact .nil hk fun _ => h
    · rw [planFrom_of_not_splitAt n hlt h]
      exact .cons hlt h (planFrom_plansFrom c ops n (k + 1) hlt)
termination_by ops.length - k

/-- A planned lane has its operands from where R103 says: neither of them splits the bundle. -/
theorem comesFrom_plannedAt {c : Config} {ops : List MicroOp} {k : Nat} (hk : k < ops.length)
    (h : ¬ SplitAt c ops k) :
    ComesFrom ops k ops[k].readsA (plannedAt c ops k ops[k]).laneA ∧
      ComesFrom ops k ops[k].readsB (plannedAt c ops k ops[k]).laneB := by
  simp only [splitAt_iff c hk, not_or] at h
  obtain ⟨-, hA, hB⟩ := h
  exact ⟨comesFrom_sourceAt hk hA, comesFrom_sourceAt hk hB⟩

/-! ## The obligation -/

/-- Settles O46: the plan of a packed bundle is `planFrom` of lane 0, and lane 0 never splits it. -/
theorem splitPointIsTheFirstObstacle : Obligations.SplitPointIsTheFirstObstacle := by
  intro c ops n plan
  obtain ⟨hfits, hnoSplit, hstops, hlanes⟩ : PlansFrom c ops 0 plan := planFrom_plansFrom c ops n 0 (Nat.zero_le _)
  simp only [Nat.zero_add] at hfits hnoSplit hstops hlanes
  refine ⟨hfits, fun k hk => hnoSplit k (Nat.zero_le k) hk, hstops, fun hne => ?_, fun k p u hp hu => ?_⟩
  · by_contra hlt
    have hzero : plan.length = 0 := by omega
    exact not_splitAt_zero c ops (hzero ▸ hstops (hzero ▸ List.length_pos_iff.2 hne))
  · obtain ⟨hk, rfl⟩ := List.getElem?_eq_some_iff.1 hu
    have hkPlan : k < plan.length := (List.getElem?_eq_some_iff.1 hp).1
    rw [hlanes k p _ hp hu]
    exact ⟨rfl, comesFrom_plannedAt hk (hnoSplit k (Nat.zero_le k) hkPlan)⟩

end Sys2Proof.Machine

/-!
PROOF. The ControlHazardUnit's flush (spec/41_hazards_and_flush.md R112 to R114): the lanes on the correct path are only
resolved, and the first mismatched one discards everything younger.
-/

namespace Sys2Proof.Machine

/-! ## The followed and the actual next pc (R112) -/

theorem Len.word_eq_ofNat (len : Len) : len.word = BitVec.ofNat 64 len.bytes := by cases len <;> rfl

theorem MicroOp.actualPc_eq (u : MicroOp) :
    u.actualPc = if u.taken then u.target else u.pc + BitVec.ofNat 64 u.len.bytes := by
  rw [MicroOp.actualPc, MicroOp.nextPc, Len.word_eq_ofNat]

theorem MicroOp.followedPc_eq (u : MicroOp) :
    u.followedPc = if u.predTaken then u.predTarget else u.pc + BitVec.ofNat 64 u.len.bytes := by
  rw [MicroOp.followedPc, MicroOp.nextPc, Len.word_eq_ofNat]

/-! ## What resolving changes (R113 items 1 and 2) -/

/-- From `s` to `t` only the predictor, the return-address stack and the two branch counts differ. -/
def OnlyResolves (s t : State) : Prop :=
  ∃ c g st n k, t =
    { s with
      counters := c
      ghr := g
      rasStack := st
      metrics := { s.metrics with condBranches := n, dirCorrect := k } }

theorem OnlyResolves.refl (s : State) : OnlyResolves s s := ⟨_, _, _, _, _, rfl⟩

theorem OnlyResolves.trans {s t v : State} (h : OnlyResolves s t) (h' : OnlyResolves t v) : OnlyResolves s v := by
  obtain ⟨c, g, st, n, k, rfl⟩ := h
  obtain ⟨c', g', st', n', k', rfl⟩ := h'
  exact ⟨c', g', st', n', k', rfl⟩

theorem State.onlyResolves_train (s : State) (i : Option Nat) (taken : Bool) : OnlyResolves s (s.train i taken) := by
  obtain ⟨c, g, h⟩ := s.train_keeps i taken
  exact ⟨c, g, s.rasStack, _, _, h⟩

theorem State.onlyResolves_updateRas (s : State) (u : MicroOp) : OnlyResolves s (s.updateRas u) := by
  obtain ⟨st, h⟩ := s.updateRas_keeps u
  exact ⟨s.counters, s.ghr, st, _, _, h⟩

theorem State.onlyResolves_resolveBranch (s : State) (u : MicroOp) : OnlyResolves s (s.resolveBranch u) := by
  unfold State.resolveBranch
  by_cases hb : u.flag Decoded.isBranch = true
  · rw [if_pos hb]
    exact .trans ⟨s.counters, s.ghr, s.rasStack, _, _, rfl⟩ (State.onlyResolves_train _ _ _)
  · rw [if_neg hb]
    exact .refl s

theorem State.onlyResolves_resolveControl (s : State) (u : MicroOp) : OnlyResolves s (s.resolveControl u) := by
  unfold State.resolveControl
  split_ifs
  · exact (s.onlyResolves_resolveBranch u).trans (State.onlyResolves_updateRas _ u)
  · exact s.onlyResolves_resolveBranch u

/-! ## `hazardLanes` -/

/-- No fault-free micro-op of the lanes is mismatched (R113). -/
def OnCorrectPath (l : Lanes) : Prop := ∀ q, some q ∈ l → q.fault ≠ none ∨ q.actualPc = q.followedPc

theorem OnCorrectPath.tail {slot : Option MicroOp} {l : Lanes} (h : OnCorrectPath (slot :: l)) : OnCorrectPath l :=
  fun q hq => h q (List.mem_cons_of_mem _ hq)

theorem hazardLanes_of_fault {u : MicroOp} (h : u.fault ≠ none) (l : Lanes) (s : State) :
    hazardLanes (some u :: l) s = (some u :: (hazardLanes l s).1, (hazardLanes l s).2) := by
  simp [hazardLanes, u.clean_iff, h]

theorem hazardLanes_of_match {u : MicroOp} (hf : u.fault = none) (h : u.actualPc = u.followedPc) (l : Lanes)
    (s : State) :
    hazardLanes (some u :: l) s =
      (some u :: (hazardLanes l (s.resolveControl u)).1, (hazardLanes l (s.resolveControl u)).2) := by
  simp [hazardLanes, u.clean_iff, hf, h]

theorem hazardLanes_of_mismatch {u : MicroOp} (hf : u.fault = none) (h : u.actualPc ≠ u.followedPc) (l : Lanes)
    (s : State) :
    hazardLanes (some u :: l) s = (some u :: bubbles l.length, (s.resolveControl u).redirect u) := by
  simp [hazardLanes, u.clean_iff, hf, h]

/-- The lanes on the correct path stay, and the ControlHazardUnit goes on behind them from a state in which they have only
resolved. -/
theorem hazardLanes_append {pre : Lanes} (h : OnCorrectPath pre) (s : State) :
    ∃ t, OnlyResolves s t ∧
      ∀ rest, hazardLanes (pre ++ rest) s = (pre ++ (hazardLanes rest t).1, (hazardLanes rest t).2) := by
  induction pre generalizing s with
  | nil => exact ⟨s, .refl s, fun _ => rfl⟩
  | cons slot l ih =>
    cases slot with
    | none =>
      obtain ⟨t, hst, ht⟩ := ih h.tail s
      exact ⟨t, hst, fun rest => by simp [hazardLanes, ht]⟩
    | some u =>
      by_cases hf : u.fault = none
      · have hmatch : u.actualPc = u.followedPc := (h u List.mem_cons_self).resolve_left (not_not_intro hf)
        obtain ⟨t, hst, ht⟩ := ih h.tail (s.resolveControl u)
        refine ⟨t, (s.onlyResolves_resolveControl u).trans hst, fun rest => ?_⟩
        rw [List.cons_append, hazardLanes_of_match hf hmatch, ht]
        rfl
      · obtain ⟨t, hst, ht⟩ := ih h.tail s
        refine ⟨t, hst, fun rest => ?_⟩
        rw [List.cons_append, hazardLanes_of_fault hf, ht]
        rfl

/-- The ControlHazardUnit's whole effect when a lane is mismatched: what the lanes up to it resolve, and its flush
(R114). -/
theorem State.controlHazard_of_mismatch {s : State} {pre rest : Lanes} {u : MicroOp}
    (hl : s.exmem.lanes = pre ++ some u :: rest) (hpre : OnCorrectPath pre) (hf : u.fault = none)
    (h : u.actualPc ≠ u.followedPc) :
    ∃ t, OnlyResolves s t ∧
      s.controlHazard = { t.redirect u with exmem := s.exmem.withLanes (pre ++ some u :: bubbles rest.length) } := by
  obtain ⟨t, hst, ht⟩ := hazardLanes_append hpre s
  have hsv : OnlyResolves s (t.resolveControl u) := hst.trans (t.onlyResolves_resolveControl u)
  refine ⟨_, hsv, ?_⟩
  rw [State.controlHazard, hl, ht, hazardLanes_of_mismatch hf h]
  obtain ⟨c, g, st, n, k, hv⟩ := hsv
  rw [hv]
  rfl

/-! ## The obligation -/

/-- Settles O51: resolving touches none of the fields named, so they are those of the flush. -/
theorem mismatchFlush : Obligations.MismatchFlush := by
  intro s pre rest u hl hpre hf hne
  rw [← u.actualPc_eq, ← u.followedPc_eq] at hne
  obtain ⟨t, ⟨c, g, st, n, k, rfl⟩, hflush⟩ := State.controlHazard_of_mismatch hl hpre hf hne
  rw [hflush, ← u.actualPc_eq]
  exact ⟨rfl, rfl, rfl, rfl, rfl, rfl, rfl, rfl, rfl, rfl, rfl, rfl⟩

end Sys2Proof.Machine

/-!
PROOF. The branch predictor (spec/42_branch_prediction.md R124 to R127): what one outcome trains, and what a prediction
reads.
-/

namespace Sys2Proof.Machine

/-! ## `State.train` -/

/-- The saturating counter, as a move by one on the integers cut off at both ends of its range. -/
theorem trainCounter_eq_clamp (bits c : Nat) (t : Bool) :
    (trainCounter bits c t : Int) = if t then min ((c : Int) + 1) (2 ^ bits - 1) else max ((c : Int) - 1) 0 := by
  cases t with
  | true =>
    have hpos : 1 ≤ 2 ^ bits := Nat.one_le_two_pow
    simp [trainCounter, Nat.cast_sub hpos]
  | false =>
    simp only [trainCounter, Bool.false_eq_true, if_false]
    omega

theorem shiftHistory_eq (bits ghr : Nat) (t : Bool) :
    shiftHistory bits ghr t = (ghr * 2 + if t then 1 else 0) % 2 ^ bits := by
  rw [shiftHistory, Bool.toNat, Nat.mul_comm, Bool.cond_eq_ite]

theorem State.counter_train_same {s : State} (h : sparseWf s.cfg.initCounter s.counters) (i : Nat) (t : Bool) :
    (s.train (some i) t).counter i = trainCounter s.cfg.counterBits (s.counter i) t :=
  (sparseRead_write h i i _).trans (if_pos rfl)

/-- No other counter moves, whether or not the table is in its canonical form. -/
theorem State.counter_train_ne (s : State) {i j : Nat} (h : j ≠ i) (t : Bool) :
    (s.train (some i) t).counter j = s.counter j := sparseRead_write_ne s.counters h _

theorem State.train_ghr (s : State) (i : Nat) (t : Bool) :
    (s.train (some i) t).ghr =
      if s.cfg.predictor = .gshare then shiftHistory s.cfg.tableBits s.ghr t else s.ghr := rfl

/-- Settles O53: the trained counter is the one read at its index, and the write leaves every other entry. -/
theorem countersSaturate : Obligations.CountersSaturate := by
  intro s i t hwf
  refine ⟨?_, fun j hj => s.counter_train_ne hj t, ?_, rfl⟩
  · rw [State.counter_train_same hwf, trainCounter_eq_clamp]
  · rw [State.train_ghr, shiftHistory_eq]

/-! ## `State.predict` -/

theorem State.predict_of_index {s : State} {a : Word} {i : Nat} (h : s.predictIndex a = some i) :
    s.predict a = (decide (s.counter i ≥ 2 ^ (s.cfg.counterBits - 1)), some i) := by
  simp [State.predict, h]

theorem State.predict_of_noIndex {s : State} {a : Word} (h : s.predictIndex a = none) :
    s.predict a = (false, none) := by
  simp [State.predict, h]

theorem State.predictIndex_static {s : State} (h : s.cfg.predictor = .static) (a : Word) : s.predictIndex a = none := by
  simp [State.predictIndex, h]

theorem State.predictIndex_bimodal {s : State} (h : s.cfg.predictor = .bimodal) (a : Word) :
    s.predictIndex a = some ((a >>> 1).toNat % 2 ^ s.cfg.tableBits) := by
  simp [State.predictIndex, h, Nat.shiftRight_eq_div_pow]

theorem State.predictIndex_gshare {s : State} (h : s.cfg.predictor = .gshare) (a : Word) :
    s.predictIndex a = some (((a >>> 1).toNat ^^^ s.ghr) % 2 ^ s.cfg.tableBits) := by
  simp [State.predictIndex, h, Nat.shiftRight_eq_div_pow]

/-- Settles O54, from the index of each predictor kind. -/
theorem predictionReadsTheUpperHalf : Obligations.PredictionReadsTheUpperHalf := by
  refine fun s a => ⟨fun h => ?static, fun h i hi => ?bimodal, fun h i hi => ?gshare⟩
  case static => exact State.predict_of_noIndex (State.predictIndex_static h a)
  case bimodal => exact hi ▸ State.predict_of_index (State.predictIndex_bimodal h a)
  case gshare => exact hi ▸ State.predict_of_index (State.predictIndex_gshare h a)

end Sys2Proof.Machine

/-!
PROOF. Calls, returns and the return-address stack (spec/42_branch_prediction.md R131 and R132), and the prediction
fields Fetch fills (R129).
-/

namespace Sys2Proof.Machine

/-! ## Jumps, by the decoded record and by the instruction -/

/-- What the predictor reads of a decoded record, the immediate apart, is that of the expansion (R202). -/
theorem recordOf_expand (i : Instr) :
    (recordOf i).op = (recordOf (expand i)).op ∧ (recordOf i).rd = (recordOf (expand i)).rd ∧
      (recordOf i).rs1 = (recordOf (expand i)).rs1 ∧ (recordOf i).isBranch = (recordOf (expand i)).isBranch := by
  cases i <;> exact ⟨rfl, rfl, rfl, rfl⟩

theorem recordOf_jal_iff (i : Instr) (rd : Reg) :
    (recordOf i).op = .jal ∧ (recordOf i).rd = rd ↔ ∃ offset, expand i = .jal rd offset := by
  constructor
  · rintro ⟨h, rfl⟩
    cases i with
    | jal rd offset => exact ⟨offset, rfl⟩
    | cJ offset => exact ⟨offset.signExtend 21, rfl⟩
    | _ => cases h
  · rintro ⟨offset, he⟩
    obtain ⟨hop, hrd, -, -⟩ := recordOf_expand i
    rw [hop, hrd, he]
    exact ⟨rfl, rfl⟩

theorem recordOf_jalr_iff (i : Instr) (rd rs1 : Reg) :
    (recordOf i).op = .jalr ∧ (recordOf i).rd = rd ∧ (recordOf i).rs1 = rs1 ↔ ∃ imm, expand i = .jalr rd rs1 imm := by
  constructor
  · rintro ⟨h, rfl, rfl⟩
    cases i with
    | jalr rd rs1 imm => exact ⟨imm, rfl⟩
    | cJr rs1 | cJalr rs1 => exact ⟨0, rfl⟩
    | _ => cases h
  · rintro ⟨imm, he⟩
    obtain ⟨hop, hrd, hrs1, -⟩ := recordOf_expand i
    rw [hop, hrd, hrs1, he]
    exact ⟨rfl, rfl, rfl⟩

/-- A jump is no conditional branch. -/
theorem recordOf_isBranch_of_jump {i : Instr} (h : (recordOf i).op = .jal ∨ (recordOf i).op = .jalr) :
    (recordOf i).isBranch = false := by
  obtain ⟨-, -, -, hb⟩ := recordOf_expand i
  rw [hb]
  rcases h with h | h
  · obtain ⟨offset, he⟩ := (recordOf_jal_iff i _).1 ⟨h, rfl⟩
    rw [he]; rfl
  · obtain ⟨imm, he⟩ := (recordOf_jalr_iff i _ _).1 ⟨h, rfl, rfl⟩
    rw [he]; rfl

theorem Decoded.isCall_iff (d : Decoded) : d.isCall = true ↔ (d.op = .jal ∨ d.op = .jalr) ∧ d.rd = 1 := by
  simp [Decoded.isCall]

theorem Decoded.isReturn_iff (d : Decoded) : d.isReturn = true ↔ d.op = .jalr ∧ d.rd = 0 ∧ d.rs1 = 1 := by
  simp [Decoded.isReturn, and_assoc]

/-- No record is both: a call links in x1, a return in x0. -/
theorem Decoded.isCall_of_isReturn {d : Decoded} (h : d.isReturn = true) : d.isCall = false := by
  obtain ⟨-, hrd, -⟩ := d.isReturn_iff.1 h
  simp [Decoded.isCall, hrd]

theorem recordOf_isCall_iff (i : Instr) :
    (recordOf i).isCall = true ↔ (∃ off, expand i = .jal 1 off) ∨ ∃ rs1 imm, expand i = .jalr 1 rs1 imm := by
  rw [Decoded.isCall_iff, or_and_right, recordOf_jal_iff]
  simp [← recordOf_jalr_iff]

theorem recordOf_isReturn_iff (i : Instr) : (recordOf i).isReturn = true ↔ ∃ imm, expand i = .jalr 0 1 imm := by
  rw [Decoded.isReturn_iff, recordOf_jalr_iff]

/-! ## `State.updateRas` -/

section UpdateRas

variable {s : State} {u : MicroOp} {d : Decoded}

theorem State.updateRas_of_call (hd : u.dec = some d) (h : d.isCall = true) :
    (s.updateRas u).rasStack = (u.nextPc :: s.rasStack).take s.cfg.rasDepth := by
  simp [State.updateRas, u.flag_of_some _ d hd, h, pushReturn]

theorem State.updateRas_of_return (hd : u.dec = some d) (h : d.isReturn = true) :
    (s.updateRas u).rasStack = s.rasStack.tail := by
  simp [State.updateRas, u.flag_of_some _ d hd, h, Decoded.isCall_of_isReturn h]

theorem State.updateRas_of_neither (hd : u.dec = some d) (hc : d.isCall = false) (hr : d.isReturn = false) :
    s.updateRas u = s := by
  simp [State.updateRas, u.flag_of_some _ d hd, hc, hr]

end UpdateRas

/-- Settles O55: the stack after a call is the first `rasDepth` entries of the pushed one, and what is dropped is the
rest of it. -/
theorem returnAddressStack : Obligations.ReturnAddressStack := by
  refine ⟨fun i => ⟨recordOf_isCall_iff i, recordOf_isReturn_iff i⟩, fun s u d hd hlen => ⟨fun hc => ?call,
    fun hr => ?ret, fun hc hr => ?neither⟩⟩
  case call =>
    rw [State.updateRas_of_call hd hc, ← Len.word_eq_ofNat, ← MicroOp.nextPc]
    exact ⟨_, List.take_append_drop _ _, by rw [List.length_take, List.length_cons, Nat.min_comm]⟩
  case ret => rw [State.updateRas_of_return hd hr, List.drop_one]
  case neither => rw [State.updateRas_of_neither hd hc hr]

/-! ## `State.predictOp` -/

@[simp] theorem MicroOp.follow_predTaken (u : MicroOp) (target : Word) : (u.follow target).predTaken = true := rfl
@[simp] theorem MicroOp.follow_predTarget (u : MicroOp) (target : Word) : (u.follow target).predTarget = target := rfl

section Predict

variable {s : State} {u : MicroOp} {d : Decoded}

theorem newMicroOp_of_decode {word : InstWord} {len : Len} {i : Instr} (a : Word) (h : decode word len = .ok i) :
    newMicroOp a len word = { blankOp a with len := len, word := word, dec := some (recordOf i) } := by
  simp [newMicroOp, decodeRecord_ok h]

theorem State.predictOp_of_dec (h : u.dec = some d) : s.predictOp u = s.predictDecoded u d := by
  simp [State.predictOp, h]

/-- Item 1 of R129: a conditional branch. -/
theorem State.predictDecoded_of_branch (h : d.isBranch = true) :
    s.predictDecoded u d =
      { u with
        dirPred := (s.predict u.pc).1
        predIdx := (s.predict u.pc).2
        predTaken := s.cfg.ebr && (s.predict u.pc).1 || u.predTaken
        predTarget := if s.cfg.ebr && (s.predict u.pc).1 then u.pc + d.imm else u.predTarget } := by
  rw [State.predictDecoded, if_pos h]
  cases hp : s.cfg.ebr && (s.predict u.pc).1 <;> rfl

/-- Item 2 of R129: JAL. -/
theorem State.predictDecoded_of_jal (hb : d.isBranch = false) (h : d.op = .jal) :
    s.predictDecoded u d = if s.cfg.ebr then u.follow (u.pc + d.imm) else u := by
  have hr : d.isReturn = false := by simp [Decoded.isReturn, h]
  simp [State.predictDecoded, hb, h, hr]

/-- Item 3 of R129: a return with a stack to follow. -/
theorem State.predictDecoded_of_return (hb : d.isBranch = false) (h : d.isReturn = true) :
    s.predictDecoded u d = if s.cfg.ebr && s.cfg.ras then s.rasStack.head?.elim u u.follow else u := by
  obtain ⟨hop, -, -⟩ := d.isReturn_iff.1 h
  cases hs : s.rasStack <;> simp [State.predictDecoded, hb, h, hop, hs]

/-- Item 4 of R129: anything else. -/
theorem State.predictDecoded_of_other (hb : d.isBranch = false) (hj : d.op ≠ .jal) (hr : d.isReturn = false) :
    s.predictDecoded u d = u := by
  simp [State.predictDecoded, hb, hj, hr]

/-- Only the prediction of a conditional branch records a direction and an index; any other micro-op is followed to some
address, or stays as it is. -/
theorem State.predictDecoded_of_not_branch (hb : d.isBranch = false) :
    s.predictDecoded u d = u ∨ ∃ target, s.predictDecoded u d = u.follow target := by
  by_cases hj : d.op = .jal
  · rw [State.predictDecoded_of_jal hb hj]
    split_ifs
    · exact .inr ⟨_, rfl⟩
    · exact .inl rfl
  · cases hr : d.isReturn with
    | false => exact .inl (State.predictDecoded_of_other hb hj hr)
    | true =>
      rw [State.predictDecoded_of_return hb hr]
      cases s.rasStack with
      | nil => simp
      | cons top rest =>
        split_ifs
        · exact .inr ⟨top, rfl⟩
        · exact .inl rfl

end Predict

/-- Settles O57, class by class: each of R129's items says the whole micro-op, and the obligation reads its fields. -/
theorem fetchFollowsItsPredictions : Obligations.FetchFollowsItsPredictions := by
  intro s a len word i hdec
  rw [newMicroOp_of_decode a hdec, State.predictOp_of_dec rfl]
  refine ⟨fun hb => ?branch, fun hb => ?noDirection, fun hj => ?jal, fun hr => ?ret, fun hb hj hr => ?other, ?target⟩
  case branch =>
    rw [State.predictDecoded_of_branch hb]
    exact ⟨rfl, by simp [blankOp], fun h => if_pos (by simpa [blankOp] using h)⟩
  case noDirection =>
    obtain h | ⟨target, h⟩ := State.predictDecoded_of_not_branch (s := s) hb <;> rw [h] <;> exact ⟨rfl, rfl⟩
  case jal =>
    rw [State.predictDecoded_of_jal (recordOf_isBranch_of_jump (.inl hj)) hj]
    cases s.cfg.ebr <;> simp [blankOp]
  case ret =>
    obtain ⟨hop, -, -⟩ := (recordOf i).isReturn_iff.1 hr
    rw [State.predictDecoded_of_return (recordOf_isBranch_of_jump (.inr hop)) hr]
    cases s.rasStack with
    | nil => simp [blankOp]
    | cons top rest => cases s.cfg.ebr <;> cases s.cfg.ras <;> simp [blankOp]
  case other => rw [State.predictDecoded_of_other hb hj hr]; rfl
  case target =>
    cases hb : (recordOf i).isBranch with
    | true =>
      rw [State.predictDecoded_of_branch hb]
      exact fun h => if_neg (by simpa [blankOp] using h)
    | false =>
      obtain h | ⟨target, h⟩ := State.predictDecoded_of_not_branch (s := s) hb
      · rw [h]; exact fun _ => rfl
      · rw [h]; exact fun htaken => absurd htaken (by simp)

end Sys2Proof.Machine

/-!
PROOF. ECALL with the reference host (spec/60_exceptions.md R251, R252): what `TestHost` answers for each service, and
what an ECALL does with an answer that changes nothing or writes one register.
-/

namespace Sys2Proof.Machine

theorem exec_ecall (s : State) : exec .ecall s = finishCall .four s := rfl

theorem State.next4_pcAfter (s : State) : s.next4 (s.pcAfter .four) := isMod64_pcAfter s .four

/-- A run of bytes is the list of the bytes at its offsets. -/
theorem Memory.bytes_eq_map (m : Memory) (a n : Nat) :
    m.bytes a n = (List.range n).map fun k => m.byte (a + k) := by
  induction n generalizing a with
  | zero => rfl
  | succ n ih =>
    simp only [Memory.bytes, ih, List.range_succ_eq_map, List.map_cons, List.map_map, Function.comp_def,
      Nat.succ_eq_add_one, Nat.add_zero, Nat.add_assoc, Nat.add_comm 1]

/-! ## What `TestHost` answers -/

section TestHost

variable {s : State}

theorem State.hostReply_of_testHost (hh : s.plat.host = .testHost) : s.hostReply = testHost s.plat s.reg s.mem := by
  rw [State.hostReply, hh]

theorem State.hostReply_of_exit (hh : s.plat.host = .testHost) (h17 : s.reg 17 = 93) :
    s.hostReply = ⟨.exit, [], [], []⟩ := by
  rw [State.hostReply_of_testHost hh, testHost, if_pos h17]

theorem State.hostReply_of_unknown (hh : s.plat.host = .testHost) (h93 : s.reg 17 ≠ 93) (h64 : s.reg 17 ≠ 64) :
    s.hostReply = ⟨.refuse, [], [], []⟩ := by
  rw [State.hostReply_of_testHost hh, testHost, if_neg h93, if_neg h64]

/-- The answer to service 64 (write), before the split on its length and its buffer. -/
theorem State.hostReply_of_write (hh : s.plat.host = .testHost) (h17 : s.reg 17 = 64) :
    s.hostReply =
      if s.reg 12 = 0 then ⟨.continue, [(10, 0)], [], []⟩
      else if Platform.inRange s.plat (s.reg 11).toNat (s.reg 12).toNat then
        ⟨.continue, [(10, s.reg 12)], [], s.mem.bytes (s.reg 11).toNat (s.reg 12).toNat⟩
      else ⟨.fault (s.reg 11), [], [], []⟩ := by
  rw [State.hostReply_of_testHost hh, testHost, if_neg (by rw [h17]; decide), if_pos h17]

theorem State.hostReply_of_write_nothing (hh : s.plat.host = .testHost) (h17 : s.reg 17 = 64) (h12 : s.reg 12 = 0) :
    s.hostReply = ⟨.continue, [(10, 0)], [], []⟩ := by
  rw [State.hostReply_of_write hh h17, if_pos h12]

theorem State.hostReply_of_write_inRegion (hh : s.plat.host = .testHost) (h17 : s.reg 17 = 64) (h12 : s.reg 12 ≠ 0)
    (hin : InRegion s (s.reg 11) (s.reg 12).toNat) :
    s.hostReply = ⟨.continue, [(10, s.reg 12)], [], s.mem.bytes (s.reg 11).toNat (s.reg 12).toNat⟩ := by
  rw [State.hostReply_of_write hh h17, if_neg h12, if_pos ((Platform.inRange_iff _ _ _).2 hin)]

theorem State.hostReply_of_write_outside (hh : s.plat.host = .testHost) (h17 : s.reg 17 = 64) (h12 : s.reg 12 ≠ 0)
    (hout : ¬ InRegion s (s.reg 11) (s.reg 12).toNat) : s.hostReply = ⟨.fault (s.reg 11), [], [], []⟩ := by
  rw [State.hostReply_of_write hh h17, if_neg h12, if_neg fun hin => hout ((Platform.inRange_iff _ _ _).1 hin)]

end TestHost

/-! ## What an ECALL does with an answer -/

section Call

variable {s : State} {len : Len}

/-- An answer that lists no change leaves the state as it is, whatever its verdict. -/
theorem State.applyReply_nil (s : State) (v : HostVerdict) : s.applyReply ⟨v, [], [], []⟩ = s := by
  simp [State.applyReply, applyRegWrites, applyMemWrites]

theorem finishCall_of_continue (h : s.hostReply.verdict = .continue) :
    finishCall len s = .next ((s.applyReply s.hostReply).setPc (s.pcAfter len)) := by
  rw [finishCall_eq, if_pos h, State.hostCall_continue h]

theorem finishCall_of_not_continue (h : s.hostReply.verdict ≠ .continue) :
    finishCall len s = .next (s.hostCall s.pc) := by
  rw [finishCall_eq, if_neg h]

theorem finishCall_endsRun_of_exit (h : s.hostReply = ⟨.exit, [], [], []⟩) :
    EndsRun s (finishCall len s) (.halted .exit) := by
  rw [finishCall_of_not_continue (by simp [h]), State.hostCall_exit (by rw [h]), h, State.applyReply_nil]
  exact endsRun_setStatus s _

theorem finishCall_endsRun_of_fault {a : Word} (h : s.hostReply.verdict = .fault a) :
    EndsRun s (finishCall len s) (.error (.memoryFault s.pc a)) := by
  rw [finishCall_of_not_continue (by simp [h]), State.hostCall_fault h]
  exact endsRun_setStatus s _

theorem finishCall_endsRun_of_refuse (h : s.hostReply.verdict = .refuse) :
    EndsRun s (finishCall len s) (.refused (.hostService s.pc)) := by
  rw [finishCall_of_not_continue (by simp [h]), State.hostCall_refuse h]
  exact endsRun_setStatus s _

/-- After a `Continue` that writes one register and appends bytes to the output, nothing else differs but pc. -/
theorem finishCall_of_continue_writing {rd : Reg} {v : Word} {bytes : List Byte}
    (h : s.hostReply = ⟨.continue, [(rd, v)], [], bytes⟩) :
    ∃ t, finishCall len s = .next t ∧ RegWritten s t rd v ∧ t.pc = s.pcAfter len ∧ SameBytes s t ∧
      t.out = s.out ++ bytes ∧ t.status = s.status ∧ SameMachine s t := by
  rw [finishCall_of_continue (by rw [h]), h]
  exact ⟨_, rfl, State.reg_of_writeRegs rfl, rfl, fun _ => rfl, rfl, rfl,
    ⟨rfl, rfl, rfl, rfl, rfl, rfl, rfl, rfl, rfl, rfl, rfl, rfl⟩⟩

end Call

/-! ## The obligation -/

/-- Settles O24, service by service: the answer of `TestHost`, and what an ECALL does with it. -/
theorem ecallWithTheReferenceHost : Obligations.EcallWithTheReferenceHost := by
  intro s hh
  rw [exec_ecall]
  refine ⟨fun h17 => ?exit, fun h17 h12 => ?nothing, fun h17 h12 hin => ?buffer, fun h17 h12 hout => ?outside,
    fun h93 h64 => ?unknown⟩
  case exit => exact finishCall_endsRun_of_exit (State.hostReply_of_exit hh h17)
  case nothing =>
    obtain ⟨t, ht, hreg, hpc, hmem, happ, hstatus, hsame⟩ :=
      finishCall_of_continue_writing (len := .four) (State.hostReply_of_write_nothing hh h17 h12)
    exact ⟨t, 0, ht, rfl, hreg, hpc ▸ s.next4_pcAfter, hmem, happ.trans (List.append_nil _), hstatus, hsame⟩
  case buffer =>
    obtain ⟨t, ht, hreg, hpc, hmem, happ, hstatus, hsame⟩ :=
      finishCall_of_continue_writing (len := .four) (State.hostReply_of_write_inRegion hh h17 h12 hin)
    exact ⟨t, ht, hreg, hpc ▸ s.next4_pcAfter, hmem, happ.trans (by rw [Memory.bytes_eq_map]), hstatus, hsame⟩
  case outside => exact finishCall_endsRun_of_fault (by rw [State.hostReply_of_write_outside hh h17 h12 hout])
  case unknown => exact finishCall_endsRun_of_refuse (by rw [State.hostReply_of_unknown hh h93 h64])

end Sys2Proof.Machine

/-!
PROOF. The Decoder and the encoder are inverse to each other (spec/30_encoding.md R58, R59, R62, spec/48_compressed.md
R63, R203 to R237). The fields of a word are read from a concatenation of fields and make the word up again; with that
each space of the Decoder is one lemma in each direction.
-/

namespace Sys2Proof

/-! ## Fields of a concatenation

The width of a concatenation is written as a numeral in the formats of R58 and R63, so `m + n` is no part of the pattern
these lemmas are found by. -/

@[simp] theorem extractLsb'_append_above {m n : Nat} (x : BitVec m) (y : BitVec n) {s : Nat} (k : Nat) (h : n ≤ s) :
    (@HAppend.hAppend (BitVec m) (BitVec n) (BitVec (no_index (m + n))) _ x y).extractLsb' s k =
      x.extractLsb' (s - n) k :=
  extractLsb'_append_high x y s k h

@[simp] theorem extractLsb'_append_below {m n : Nat} (x : BitVec m) (y : BitVec n) {s k : Nat} (h : s + k ≤ n) :
    (@HAppend.hAppend (BitVec m) (BitVec n) (BitVec (no_index (m + n))) _ x y).extractLsb' s k = y.extractLsb' s k :=
  extractLsb'_append_inside x y s k h

/-- Two adjacent fields are one field. -/
@[simp] theorem extractLsb'_append_adjacent {n : Nat} (x : BitVec n) {s' k' s k : Nat} (h : s' = s + k) :
    @HAppend.hAppend (BitVec k') (BitVec k) (BitVec (no_index (k' + k))) _ (x.extractLsb' s' k') (x.extractLsb' s k) =
      x.extractLsb' s (k' + k) :=
  BitVec.extractLsb'_append_extractLsb'_eq_extractLsb' h

@[simp] theorem extractLsb'_zero_width {n : Nat} (x : BitVec n) : x.extractLsb' 0 n = x := extractLsb'_whole x

/-- Bits 0 of an operand that its encoding leaves out, as a field to be joined with the others. -/
theorem lowZero_iff {w : Nat} (n : Nat) (v : BitVec w) : lowZero n v = true ↔ v.extractLsb' 0 n = 0#n := by
  simp [lowZero]

/-! ## Immediates read back from their formats -/

@[simp] theorem immSOf_encS (imm : BitVec 12) (rs2 rs1 : Reg) (f3 : BitVec 3) (op : BitVec 7) :
    immSOf (encS imm rs2 rs1 f3 op) = imm := by simp [immSOf, encS]

theorem immBOf_encB {off : BitVec 13} (h : lowZero 1 off = true) (rs2 rs1 : Reg) (f3 : BitVec 3) (op : BitVec 7) :
    immBOf (encB off rs2 rs1 f3 op) = off := by
  rw [lowZero_iff] at h
  simp [immBOf, encB, ← h]

theorem immJOf_encJ {off : BitVec 21} (h : lowZero 1 off = true) (rd : Reg) (op : BitVec 7) :
    immJOf (encJ off rd op) = off := by
  rw [lowZero_iff] at h
  simp [immJOf, encJ, ← h]

@[simp] theorem cImm6Of_encCi6 (f3 : BitVec 3) (imm : BitVec 6) (rd : Reg) (q : BitVec 2) :
    cImm6Of (encCi6 f3 imm rd q) = imm := by simp [cImm6Of, encCi6, encCi]

@[simp] theorem cImm6Of_encCbAlu (f3 : BitVec 3) (imm : BitVec 6) (f2 : BitVec 2) (rdp : CReg) (q : BitVec 2) :
    cImm6Of (encCbAlu f3 imm f2 rdp q) = imm := by simp [cImm6Of, encCbAlu]

theorem cImmJ_encCj {off : BitVec 12} (h : lowZero 1 off = true) (f3 : BitVec 3) (q : BitVec 2) :
    cImmJ (encCj f3 off q) = off := by
  rw [lowZero_iff] at h
  simp [cImmJ, encCj, ← h]

theorem cImmB_encCb {off : BitVec 9} (h : lowZero 1 off = true) (f3 : BitVec 3) (rs1p : CReg) (q : BitVec 2) :
    cImmB (encCb f3 off rs1p q) = off := by
  rw [lowZero_iff] at h
  simp [cImmB, encCb, ← h]

section Scrambled

variable (f3 : BitVec 3) (r r' : CReg) (rd : Reg) (q : BitVec 2)

theorem cImmAddi4spn_encCiw {u : BitVec 10} (h : lowZero 2 u = true) :
    cImmAddi4spn (encCiw f3 (u.extractLsb' 4 2 ++ u.extractLsb' 6 4 ++ u.extractLsb' 2 1 ++ u.extractLsb' 3 1) r q) =
      u := by
  rw [lowZero_iff] at h
  simp [cImmAddi4spn, encCiw, ← h]

theorem cImmLw_encCl {u : BitVec 7} (h : lowZero 2 u = true) :
    cImmLw (encCl f3 (u.extractLsb' 3 3) r (u.extractLsb' 2 1 ++ u.extractLsb' 6 1) r' q) = u := by
  rw [lowZero_iff] at h
  simp [cImmLw, encCl, ← h]

theorem cImmLd_encCl {u : BitVec 8} (h : lowZero 3 u = true) :
    cImmLd (encCl f3 (u.extractLsb' 3 3) r (u.extractLsb' 6 2) r' q) = u := by
  rw [lowZero_iff] at h
  simp [cImmLd, encCl, ← h]

theorem cImmAddi16sp_encCi {u : BitVec 10} (h : lowZero 4 u = true) :
    cImmAddi16sp (encCi f3 (u.extractLsb' 9 1) rd
      (u.extractLsb' 4 1 ++ u.extractLsb' 6 1 ++ u.extractLsb' 7 2 ++ u.extractLsb' 5 1) q) = u := by
  rw [lowZero_iff] at h
  simp [cImmAddi16sp, encCi, ← h]

theorem cImmLui_encCi {u : BitVec 18} (h : lowZero 12 u = true) :
    cImmLui (encCi f3 (u.extractLsb' 17 1) rd (u.extractLsb' 12 5) q) = u := by
  rw [lowZero_iff] at h
  simp [cImmLui, encCi, ← h]

theorem cImmLwsp_encCi {u : BitVec 8} (h : lowZero 2 u = true) :
    cImmLwsp (encCi f3 (u.extractLsb' 5 1) rd (u.extractLsb' 2 3 ++ u.extractLsb' 6 2) q) = u := by
  rw [lowZero_iff] at h
  simp [cImmLwsp, encCi, ← h]

theorem cImmLdsp_encCi {u : BitVec 9} (h : lowZero 3 u = true) :
    cImmLdsp (encCi f3 (u.extractLsb' 5 1) rd (u.extractLsb' 3 2 ++ u.extractLsb' 6 3) q) = u := by
  rw [lowZero_iff] at h
  simp [cImmLdsp, encCi, ← h]

theorem cImmSwsp_encCss {u : BitVec 8} (h : lowZero 2 u = true) :
    cImmSwsp (encCss f3 (u.extractLsb' 2 4 ++ u.extractLsb' 6 2) rd q) = u := by
  rw [lowZero_iff] at h
  simp [cImmSwsp, encCss, ← h]

theorem cImmSdsp_encCss {u : BitVec 9} (h : lowZero 3 u = true) :
    cImmSdsp (encCss f3 (u.extractLsb' 3 3 ++ u.extractLsb' 6 3) rd q) = u := by
  rw [lowZero_iff] at h
  simp [cImmSdsp, encCss, ← h]

end Scrambled

/-! ## The spaces of the Decoder on the words of their formats -/

@[simp] theorem decode_four (w : InstWord) : decode w .four = decode32 w := rfl

@[simp] theorem decode_two (h : Parcel) : decode (h.setWidth 32) .two = decode16 h := by
  simp only [decode, setWidth_parcel]

section Spaces

variable (f7 op : BitVec 7) (f6 shamt : BitVec 6) (f3 : BitVec 3) (rd rs1 rs2 : Reg) (imm : BitVec 12)
  (imm20 : BitVec 20)

theorem decode32_op : decode32 (encR f7 rs2 rs1 f3 rd 0x33#7) = decodeOp f7 f3 rd rs1 rs2 := by simp [decode32]

theorem decode32_op32 : decode32 (encR f7 rs2 rs1 f3 rd 0x3B#7) = decodeOp32 f7 f3 rd rs1 rs2 := by simp [decode32]

theorem decode32_opImm32_shift :
    decode32 (encR f7 rs2 rs1 f3 rd 0x1B#7) =
      decodeOpImm32 f7 f3 rd rs1 (immIOf (encR f7 rs2 rs1 f3 rd 0x1B#7)) rs2 := by simp [decode32]

theorem decode32_opImm32 :
    decode32 (encI imm rs1 f3 rd 0x1B#7) =
      decodeOpImm32 (funct7Of (encI imm rs1 f3 rd 0x1B#7)) f3 rd rs1 imm (shamt5Of (encI imm rs1 f3 rd 0x1B#7)) := by
  simp [decode32]

theorem decode32_opImm_shift :
    decode32 (encShift64 f6 shamt rs1 f3 rd 0x13#7) =
      decodeOpImm f6 f3 rd rs1 (immIOf (encShift64 f6 shamt rs1 f3 rd 0x13#7)) shamt := by simp [decode32]

theorem decode32_opImm :
    decode32 (encI imm rs1 f3 rd 0x13#7) =
      decodeOpImm (funct6Of (encI imm rs1 f3 rd 0x13#7)) f3 rd rs1 imm (shamt6Of (encI imm rs1 f3 rd 0x13#7)) := by
  simp [decode32]

theorem decode32_load : decode32 (encI imm rs1 f3 rd 0x03#7) = decodeLoad f3 rd rs1 imm := by simp [decode32]

theorem decode32_store : decode32 (encS imm rs2 rs1 f3 0x23#7) = decodeStore f3 rs2 rs1 imm := by simp [decode32]

theorem decode32_branch {off : BitVec 13} (h : lowZero 1 off = true) :
    decode32 (encB off rs2 rs1 f3 0x63#7) = decodeBranch f3 rs1 rs2 off := by simp [decode32, immBOf_encB h]

theorem decode32_jalr : decode32 (encI imm rs1 0#3 rd 0x67#7) = .ok (.jalr rd rs1 imm) := by simp [decode32]

theorem decode32_jal {off : BitVec 21} (h : lowZero 1 off = true) :
    decode32 (encJ off rd 0x6F#7) = .ok (.jal rd off) := by simp [decode32, immJOf_encJ h]

theorem decode32_lui : decode32 (encU imm20 rd 0x37#7) = .ok (.lui rd imm20) := by simp [decode32]

theorem decode32_auipc : decode32 (encU imm20 rd 0x17#7) = .ok (.auipc rd imm20) := by simp [decode32]

theorem fenceFields_encI (fm pred succ : BitVec 4) :
    (encI (fm ++ pred ++ succ) rs1 f3 rd op).extractLsb' 28 4 = fm ∧
      (encI (fm ++ pred ++ succ) rs1 f3 rd op).extractLsb' 24 4 = pred ∧
      (encI (fm ++ pred ++ succ) rs1 f3 rd op).extractLsb' 20 4 = succ := by simp [encI]

theorem decode32_fence (fm pred succ : BitVec 4) :
    decode32 (encI (fm ++ pred ++ succ) rs1 0#3 rd 0x0F#7) = .ok (.fence fm pred succ rs1 rd) := by
  simp [decode32, decodeMiscMem, fenceFields_encI]

theorem decode32_fenceI : decode32 (encI imm rs1 1#3 rd 0x0F#7) = .ok (.fenceI imm rs1 rd) := by
  simp [decode32, decodeMiscMem]

end Spaces

section Quadrants

variable {h : Parcel}

theorem decode16_quadrant0 (hq : quadrantOf h = 0) : decode16 h = decodeQuadrant0 h := by simp [decode16, hq]
theorem decode16_quadrant1 (hq : quadrantOf h = 1) : decode16 h = decodeQuadrant1 h := by simp [decode16, hq]
theorem decode16_quadrant2 (hq : quadrantOf h = 2) : decode16 h = decodeQuadrant2 h := by simp [decode16, hq]

theorem decodeQuadrant1_alu (h3 : cFunct3Of h = 4) : decodeQuadrant1 h = decodeQuadrant1Alu h := by
  simp [decodeQuadrant1, h3]

theorem decodeQuadrant2_cr (h3 : cFunct3Of h = 4) : decodeQuadrant2 h = decodeQuadrant2Cr h := by
  simp [decodeQuadrant2, h3]

end Quadrants

/-- The fields that choose among C.SRLI, C.SRAI, C.ANDI and the CA forms. -/
theorem aluFields_encCbAlu (imm : BitVec 6) (f2 : BitVec 2) (rdp : CReg) :
    (encCbAlu 4#3 imm f2 rdp 1#2).extractLsb' 10 2 = f2 := by simp [encCbAlu]

theorem aluFields_encCa (f6 : BitVec 6) (rdp : CReg) (f2 : BitVec 2) (rs2p : CReg) :
    (encCa f6 rdp f2 rs2p 1#2).extractLsb' 10 2 = f6.extractLsb' 0 2 ∧
      (encCa f6 rdp f2 rs2p 1#2).extractLsb' 12 1 = f6.extractLsb' 2 1 ∧
      (encCa f6 rdp f2 rs2p 1#2).extractLsb' 5 2 = f2 := by simp [encCa]

theorem bit12_encCr (f4 : BitVec 4) (rd rs2 : Reg) :
    (encCr f4 rd rs2 2#2).extractLsb' 12 1 = f4.extractLsb' 0 1 := by simp [encCr]

/-- The CI, CB and CA forms of quadrant 01 with funct3 100. -/
theorem decode16_cbAlu (imm : BitVec 6) (f2 : BitVec 2) (rdp : CReg) :
    decode16 (encCbAlu 4#3 imm f2 rdp 1#2) = decodeQuadrant1Alu (encCbAlu 4#3 imm f2 rdp 1#2) := by
  rw [decode16_quadrant1 (by simp), decodeQuadrant1_alu (by simp)]

theorem decode16_ca {f6 : BitVec 6} (h : f6.extractLsb' 3 3 = 4) (rdp : CReg) (f2 : BitVec 2) (rs2p : CReg) :
    decode16 (encCa f6 rdp f2 rs2p 1#2) = decodeQuadrant1Alu (encCa f6 rdp f2 rs2p 1#2) := by
  rw [decode16_quadrant1 (by simp), decodeQuadrant1_alu (by simpa using h)]

theorem decode16_cr {f4 : BitVec 4} (h : f4.extractLsb' 1 3 = 4) (rd rs2 : Reg) :
    decode16 (encCr f4 rd rs2 2#2) = decodeQuadrant2Cr (encCr f4 rd rs2 2#2) := by
  rw [decode16_quadrant2 (by simp), decodeQuadrant2_cr (by simpa using h)]

@[simp] theorem encCi6_quadrant (f3 : BitVec 3) (imm : BitVec 6) (rd : Reg) (q : BitVec 2) :
    quadrantOf (encCi6 f3 imm rd q) = q ∧ cFunct3Of (encCi6 f3 imm rd q) = f3 ∧ cRdOf (encCi6 f3 imm rd q) = rd := by
  simp [encCi6]

end Sys2Proof

namespace Sys2Proof.Machine

/-- Settles O1, space by space: the Decoder reads the fields the format wrote. -/
theorem decodeOfEncode : Obligations.DecodeOfEncode := by
  intro i hi
  cases i
  case lui | auipc => simp [encode, lenOf, decode32_lui, decode32_auipc]
  case addi | slti | sltiu | xori | ori | andi => simp [encode, lenOf, decode32_opImm, decodeOpImm]
  case slli | srli | srai => simp [encode, lenOf, decode32_opImm_shift, decodeOpImm]
  case add | sub | sll | slt | sltu | xor | srl | sra | or | and | mul | mulh | mulhsu | mulhu | div | divu | rem | remu =>
    simp [encode, lenOf, decode32_op, decodeOp]
  case addw | subw | sllw | srlw | sraw | mulw | divw | divuw | remw | remuw =>
    simp [encode, lenOf, decode32_op32, decodeOp32]
  case addiw => simp [encode, lenOf, decode32_opImm32, decodeOpImm32]
  case slliw | srliw | sraiw => simp [encode, lenOf, decode32_opImm32_shift, decodeOpImm32]
  case lb | lh | lw | ld | lbu | lhu | lwu => simp [encode, lenOf, decode32_load, decodeLoad]
  case sb | sh | sw | sd => simp [encode, lenOf, decode32_store, decodeStore]
  case beq | bne | blt | bge | bltu | bgeu => simp [encode, lenOf, decode32_branch _ _ _ hi, decodeBranch]
  case jal => exact decode32_jal _ hi
  case jalr => exact decode32_jalr ..
  case fence => exact decode32_fence ..
  case fenceI => exact decode32_fenceI ..
  case ecall | ebreak => rfl
  case cSrli | cSrai | cAndi => simp [encode, lenOf, decode16_cbAlu, decodeQuadrant1Alu, aluFields_encCbAlu]
  case cSub | cXor | cOr | cAnd | cSubw | cAddw =>
    simp [encode, lenOf, decode16_ca, decodeQuadrant1Alu, aluFields_encCa]
  case cJr | cMv | cJalr | cAdd =>
    simp [Instr.wellFormed] at hi
    simp [encode, lenOf, decode16_cr, decodeQuadrant2Cr, bit12_encCr, hi]
  case cEbreak => rfl
  case cAddi4spn =>
    simp [Instr.wellFormed] at hi
    simp [encode, lenOf, decode16_quadrant0, decodeQuadrant0, cImmAddi4spn_encCiw, hi]
  case cLw | cSw => simp [encode, lenOf, decode16_quadrant0, decodeQuadrant0, cImmLw_encCl (h := hi)]
  case cLd | cSd => simp [encode, lenOf, decode16_quadrant0, decodeQuadrant0, cImmLd_encCl (h := hi)]
  case cNop => simp [encode, lenOf, decode16_quadrant1, decodeQuadrant1]
  case cAddi | cAddiw =>
    simp [Instr.wellFormed] at hi
    simp [encode, lenOf, decode16_quadrant1, decodeQuadrant1, hi]
  case cLi => simp [encode, lenOf, decode16_quadrant1, decodeQuadrant1]
  case cAddi16sp | cLui =>
    simp [Instr.wellFormed] at hi
    simp [encode, lenOf, decode16_quadrant1, decodeQuadrant1, cImmAddi16sp_encCi, cImmLui_encCi, hi]
  case cJ => simp [encode, lenOf, decode16_quadrant1, decodeQuadrant1, cImmJ_encCj hi]
  case cBeqz | cBnez => simp [encode, lenOf, decode16_quadrant1, decodeQuadrant1, cImmB_encCb hi]
  case cSlli => simp [encode, lenOf, decode16_quadrant2, decodeQuadrant2]
  case cLwsp | cLdsp =>
    simp [Instr.wellFormed] at hi
    simp [encode, lenOf, decode16_quadrant2, decodeQuadrant2, cImmLwsp_encCi, cImmLdsp_encCi, hi]
  case cSwsp => simp [encode, lenOf, decode16_quadrant2, decodeQuadrant2, cImmSwsp_encCss (h := hi)]
  case cSdsp => simp [encode, lenOf, decode16_quadrant2, decodeQuadrant2, cImmSdsp_encCss (h := hi)]
end Sys2Proof.Machine


namespace Sys2Proof

/-! ## Words made up again from their fields -/

section Fields

variable (w : InstWord)

theorem encR_fields : encR (funct7Of w) (rs2Of w) (rs1Of w) (funct3Of w) (rdOf w) (opcodeOf w) = w := by
  simp [encR, funct7Of, rs2Of, rs1Of, funct3Of, rdOf, opcodeOf]

theorem encI_fields : encI (immIOf w) (rs1Of w) (funct3Of w) (rdOf w) (opcodeOf w) = w := by
  simp [encI, immIOf, rs1Of, funct3Of, rdOf, opcodeOf]

theorem encShift64_fields :
    encShift64 (funct6Of w) (shamt6Of w) (rs1Of w) (funct3Of w) (rdOf w) (opcodeOf w) = w := by
  simp [encShift64, funct6Of, shamt6Of, rs1Of, funct3Of, rdOf, opcodeOf]

theorem encS_fields : encS (immSOf w) (rs2Of w) (rs1Of w) (funct3Of w) (opcodeOf w) = w := by
  simp [encS, immSOf, rs2Of, rs1Of, funct3Of, opcodeOf]

theorem encB_fields : encB (immBOf w) (rs2Of w) (rs1Of w) (funct3Of w) (opcodeOf w) = w := by
  simp [encB, immBOf, rs2Of, rs1Of, funct3Of, opcodeOf]

theorem encU_fields : encU (immUOf w) (rdOf w) (opcodeOf w) = w := by simp [encU, immUOf, rdOf, opcodeOf]

theorem encJ_fields : encJ (immJOf w) (rdOf w) (opcodeOf w) = w := by simp [encJ, immJOf, rdOf, opcodeOf]

theorem encFence_fields :
    encI (w.extractLsb' 28 4 ++ w.extractLsb' 24 4 ++ w.extractLsb' 20 4) (rs1Of w) (funct3Of w) (rdOf w)
      (opcodeOf w) = w := by
  simp [encI, rs1Of, funct3Of, rdOf, opcodeOf]

@[simp] theorem lowZero_immBOf : lowZero 1 (immBOf w) = true := by simp [lowZero, immBOf]
@[simp] theorem lowZero_immJOf : lowZero 1 (immJOf w) = true := by simp [lowZero, immJOf]

end Fields

section ParcelFields

variable (h : Parcel)

theorem encCr_fields :
    encCr (cFunct3Of h ++ h.extractLsb' 12 1) (cRdOf h) (cRs2Of h) (quadrantOf h) = h := by
  simp [encCr, cFunct3Of, cRdOf, cRs2Of, quadrantOf]

theorem encCi6_fields : encCi6 (cFunct3Of h) (cImm6Of h) (cRdOf h) (quadrantOf h) = h := by
  simp [encCi6, encCi, cFunct3Of, cImm6Of, cRdOf, quadrantOf]

theorem encCiw_fields :
    encCiw (cFunct3Of h) ((cImmAddi4spn h).extractLsb' 4 2 ++ (cImmAddi4spn h).extractLsb' 6 4 ++
      (cImmAddi4spn h).extractLsb' 2 1 ++ (cImmAddi4spn h).extractLsb' 3 1) (cRdpOf h) (quadrantOf h) = h := by
  simp [encCiw, cFunct3Of, cImmAddi4spn, cRdpOf, quadrantOf]

theorem encCl_lw_fields :
    encCl (cFunct3Of h) ((cImmLw h).extractLsb' 3 3) (cRs1pOf h) ((cImmLw h).extractLsb' 2 1 ++
      (cImmLw h).extractLsb' 6 1) (cRdpOf h) (quadrantOf h) = h := by
  simp [encCl, cFunct3Of, cImmLw, cRs1pOf, cRdpOf, quadrantOf]

theorem encCl_ld_fields :
    encCl (cFunct3Of h) ((cImmLd h).extractLsb' 3 3) (cRs1pOf h) ((cImmLd h).extractLsb' 6 2) (cRdpOf h)
      (quadrantOf h) = h := by
  simp [encCl, cFunct3Of, cImmLd, cRs1pOf, cRdpOf, quadrantOf]

theorem encCi_addi16sp_fields :
    encCi (cFunct3Of h) ((cImmAddi16sp h).extractLsb' 9 1) (cRdOf h) ((cImmAddi16sp h).extractLsb' 4 1 ++
      (cImmAddi16sp h).extractLsb' 6 1 ++ (cImmAddi16sp h).extractLsb' 7 2 ++ (cImmAddi16sp h).extractLsb' 5 1)
      (quadrantOf h) = h := by
  simp [encCi, cFunct3Of, cImmAddi16sp, cRdOf, quadrantOf]

theorem encCi_lui_fields :
    encCi (cFunct3Of h) ((cImmLui h).extractLsb' 17 1) (cRdOf h) ((cImmLui h).extractLsb' 12 5) (quadrantOf h) =
      h := by
  simp [encCi, cFunct3Of, cImmLui, cRdOf, quadrantOf]

theorem encCi_lwsp_fields :
    encCi (cFunct3Of h) ((cImmLwsp h).extractLsb' 5 1) (cRdOf h) ((cImmLwsp h).extractLsb' 2 3 ++
      (cImmLwsp h).extractLsb' 6 2) (quadrantOf h) = h := by
  simp [encCi, cFunct3Of, cImmLwsp, cRdOf, quadrantOf]

theorem encCi_ldsp_fields :
    encCi (cFunct3Of h) ((cImmLdsp h).extractLsb' 5 1) (cRdOf h) ((cImmLdsp h).extractLsb' 3 2 ++
      (cImmLdsp h).extractLsb' 6 3) (quadrantOf h) = h := by
  simp [encCi, cFunct3Of, cImmLdsp, cRdOf, quadrantOf]

theorem encCss_swsp_fields :
    encCss (cFunct3Of h) ((cImmSwsp h).extractLsb' 2 4 ++ (cImmSwsp h).extractLsb' 6 2) (cRs2Of h) (quadrantOf h) =
      h := by
  simp [encCss, cFunct3Of, cImmSwsp, cRs2Of, quadrantOf]

theorem encCss_sdsp_fields :
    encCss (cFunct3Of h) ((cImmSdsp h).extractLsb' 3 3 ++ (cImmSdsp h).extractLsb' 6 3) (cRs2Of h) (quadrantOf h) =
      h := by
  simp [encCss, cFunct3Of, cImmSdsp, cRs2Of, quadrantOf]

theorem encCbAlu_fields :
    encCbAlu (cFunct3Of h) (cImm6Of h) (h.extractLsb' 10 2) (cRs1pOf h) (quadrantOf h) = h := by
  simp [encCbAlu, cFunct3Of, cImm6Of, cRs1pOf, quadrantOf]

theorem encCa_fields :
    encCa (cFunct3Of h ++ h.extractLsb' 12 1 ++ h.extractLsb' 10 2) (cRs1pOf h) (h.extractLsb' 5 2) (cRdpOf h)
      (quadrantOf h) = h := by
  simp [encCa, cFunct3Of, cRs1pOf, cRdpOf, quadrantOf]

theorem encCb_fields : encCb (cFunct3Of h) (cImmB h) (cRs1pOf h) (quadrantOf h) = h := by
  simp [encCb, cFunct3Of, cImmB, cRs1pOf, quadrantOf]

theorem encCj_fields : encCj (cFunct3Of h) (cImmJ h) (quadrantOf h) = h := by
  simp [encCj, cFunct3Of, cImmJ, quadrantOf]

@[simp] theorem lowZero_cImmAddi4spn : lowZero 2 (cImmAddi4spn h) = true := by simp [lowZero, cImmAddi4spn]
@[simp] theorem lowZero_cImmLw : lowZero 2 (cImmLw h) = true := by simp [lowZero, cImmLw]
@[simp] theorem lowZero_cImmLd : lowZero 3 (cImmLd h) = true := by simp [lowZero, cImmLd]
@[simp] theorem lowZero_cImmAddi16sp : lowZero 4 (cImmAddi16sp h) = true := by simp [lowZero, cImmAddi16sp]
@[simp] theorem lowZero_cImmLui : lowZero 12 (cImmLui h) = true := by simp [lowZero, cImmLui]
@[simp] theorem lowZero_cImmJ : lowZero 1 (cImmJ h) = true := by simp [lowZero, cImmJ]
@[simp] theorem lowZero_cImmB : lowZero 1 (cImmB h) = true := by simp [lowZero, cImmB]
@[simp] theorem lowZero_cImmLwsp : lowZero 2 (cImmLwsp h) = true := by simp [lowZero, cImmLwsp]
@[simp] theorem lowZero_cImmLdsp : lowZero 3 (cImmLdsp h) = true := by simp [lowZero, cImmLdsp]
@[simp] theorem lowZero_cImmSwsp : lowZero 2 (cImmSwsp h) = true := by simp [lowZero, cImmSwsp]
@[simp] theorem lowZero_cImmSdsp : lowZero 3 (cImmSdsp h) = true := by simp [lowZero, cImmSdsp]

end ParcelFields

/-! ## The space of a word, by its major opcode (R61) -/

section Dispatch

variable {w : InstWord}

theorem decode32_of_op (ho : opcodeOf w = 0x33#7) :
    decode32 w = decodeOp (funct7Of w) (funct3Of w) (rdOf w) (rs1Of w) (rs2Of w) := by
  simp [decode32, ho]

theorem decode32_of_op32 (ho : opcodeOf w = 0x3B#7) :
    decode32 w = decodeOp32 (funct7Of w) (funct3Of w) (rdOf w) (rs1Of w) (rs2Of w) := by
  simp [decode32, ho]

theorem decode32_of_opImm (ho : opcodeOf w = 0x13#7) :
    decode32 w = decodeOpImm (funct6Of w) (funct3Of w) (rdOf w) (rs1Of w) (immIOf w) (shamt6Of w) := by
  simp [decode32, ho]

theorem decode32_of_opImm32 (ho : opcodeOf w = 0x1B#7) :
    decode32 w = decodeOpImm32 (funct7Of w) (funct3Of w) (rdOf w) (rs1Of w) (immIOf w) (shamt5Of w) := by
  simp [decode32, ho]

theorem decode32_of_load (ho : opcodeOf w = 0x03#7) :
    decode32 w = decodeLoad (funct3Of w) (rdOf w) (rs1Of w) (immIOf w) := by
  simp [decode32, ho]

theorem decode32_of_store (ho : opcodeOf w = 0x23#7) :
    decode32 w = decodeStore (funct3Of w) (rs2Of w) (rs1Of w) (immSOf w) := by
  simp [decode32, ho]

theorem decode32_of_branch (ho : opcodeOf w = 0x63#7) :
    decode32 w = decodeBranch (funct3Of w) (rs1Of w) (rs2Of w) (immBOf w) := by
  simp [decode32, ho]

theorem decode32_of_jalr (ho : opcodeOf w = 0x67#7) :
    decode32 w = if funct3Of w = 0#3 then .ok (.jalr (rdOf w) (rs1Of w) (immIOf w)) else .error .noRow := by
  simp [decode32, ho]

theorem decode32_of_jal (ho : opcodeOf w = 0x6F#7) : decode32 w = .ok (.jal (rdOf w) (immJOf w)) := by
  simp [decode32, ho]

theorem decode32_of_lui (ho : opcodeOf w = 0x37#7) : decode32 w = .ok (.lui (rdOf w) (immUOf w)) := by
  simp [decode32, ho]

theorem decode32_of_auipc (ho : opcodeOf w = 0x17#7) : decode32 w = .ok (.auipc (rdOf w) (immUOf w)) := by
  simp [decode32, ho]

theorem decode32_of_miscMem (ho : opcodeOf w = 0x0F#7) : decode32 w = decodeMiscMem w := by
  simp [decode32, ho]

theorem decode32_of_system (ho : opcodeOf w = 0x73#7) : decode32 w = decodeSystem w := by
  simp [decode32, ho]

/-- A major opcode that is none of the 13 (R64 (a)). -/
theorem decode32_of_no_space
    (h : opcodeOf w ∉ [0x33#7, 0x3B#7, 0x13#7, 0x1B#7, 0x03#7, 0x23#7, 0x63#7, 0x67#7, 0x6F#7, 0x37#7, 0x17#7,
      0x0F#7, 0x73#7]) :
    decode32 w = .error .opcodeSpace := by
  simp only [List.mem_cons, List.not_mem_nil, or_false, not_or] at h
  obtain ⟨h1, h2, h3, h4, h5, h6, h7, h8, h9, h10, h11, h12, h13⟩ := h
  rw [decode32, if_neg h1, if_neg h2, if_neg h3, if_neg h4, if_neg h5, if_neg h6, if_neg h7, if_neg h8, if_neg h9,
    if_neg h10, if_neg h11, if_neg h12, if_neg h13]

end Dispatch

/-! ## What each space of the Decoder accepts -/

/-- `i` is a well-formed instruction of 32 bits whose encoding is `w`. -/
def Encodes (i : Instr) (w : InstWord) : Prop := encode i = w ∧ lenOf i = .four ∧ i.wellFormed = true

/-- The last value of a 3-bit field. -/
theorem eq_seven_of_ne : ∀ f : BitVec 3, f ≠ 0#3 → f ≠ 1#3 → f ≠ 2#3 → f ≠ 3#3 → f ≠ 4#3 → f ≠ 5#3 → f ≠ 6#3 →
    f = 7#3 := by
  intro f
  bv_omega

/-- The value of a 3-bit field that OP-IMM leaves for its right shifts. -/
theorem eq_five_of_ne : ∀ f : BitVec 3, f ≠ 0#3 → f ≠ 2#3 → f ≠ 3#3 → f ≠ 4#3 → f ≠ 6#3 → f ≠ 7#3 → f ≠ 1#3 →
    f = 5#3 := by
  intro f
  bv_omega

section Accepted

variable {w : InstWord} {i : Instr}

theorem decodeOp_encodes (ho : opcodeOf w = 0x33#7)
    (h : decodeOp (funct7Of w) (funct3Of w) (rdOf w) (rs1Of w) (rs2Of w) = .ok i) : Encodes i w := by
  have hw := encR_fields w
  have h7 := eq_seven_of_ne (funct3Of w)
  unfold decodeOp at h
  split_ifs at h <;> cases h <;> refine ⟨?_, rfl, rfl⟩ <;> simp_all [encode]

theorem decodeOp32_encodes (ho : opcodeOf w = 0x3B#7)
    (h : decodeOp32 (funct7Of w) (funct3Of w) (rdOf w) (rs1Of w) (rs2Of w) = .ok i) : Encodes i w := by
  have hw := encR_fields w
  unfold decodeOp32 at h
  split_ifs at h <;> cases h <;> refine ⟨?_, rfl, rfl⟩ <;> simp_all [encode]

theorem decodeOpImm_encodes (ho : opcodeOf w = 0x13#7)
    (h : decodeOpImm (funct6Of w) (funct3Of w) (rdOf w) (rs1Of w) (immIOf w) (shamt6Of w) = .ok i) :
    Encodes i w := by
  have hw := encI_fields w
  have hshift := encShift64_fields w
  have h5 := eq_five_of_ne (funct3Of w)
  unfold decodeOpImm at h
  split_ifs at h <;> cases h <;> refine ⟨?_, rfl, rfl⟩ <;> simp_all [encode]

theorem decodeOpImm32_encodes (ho : opcodeOf w = 0x1B#7)
    (h : decodeOpImm32 (funct7Of w) (funct3Of w) (rdOf w) (rs1Of w) (immIOf w) (shamt5Of w) = .ok i) :
    Encodes i w := by
  have hw := encI_fields w
  have hshift : encR (funct7Of w) (shamt5Of w) (rs1Of w) (funct3Of w) (rdOf w) (opcodeOf w) = w := encR_fields w
  unfold decodeOpImm32 at h
  split_ifs at h <;> cases h <;> refine ⟨?_, rfl, rfl⟩ <;> simp_all [encode]

theorem decodeLoad_encodes (ho : opcodeOf w = 0x03#7)
    (h : decodeLoad (funct3Of w) (rdOf w) (rs1Of w) (immIOf w) = .ok i) : Encodes i w := by
  have hw := encI_fields w
  unfold decodeLoad at h
  split_ifs at h <;> cases h <;> refine ⟨?_, rfl, rfl⟩ <;> simp_all [encode]

theorem decodeStore_encodes (ho : opcodeOf w = 0x23#7)
    (h : decodeStore (funct3Of w) (rs2Of w) (rs1Of w) (immSOf w) = .ok i) : Encodes i w := by
  have hw := encS_fields w
  unfold decodeStore at h
  split_ifs at h <;> cases h <;> refine ⟨?_, rfl, rfl⟩ <;> simp_all [encode]

theorem decodeBranch_encodes (ho : opcodeOf w = 0x63#7)
    (h : decodeBranch (funct3Of w) (rs1Of w) (rs2Of w) (immBOf w) = .ok i) : Encodes i w := by
  have hw := encB_fields w
  unfold decodeBranch at h
  split_ifs at h <;> cases h <;> refine ⟨?_, rfl, lowZero_immBOf w⟩ <;> simp_all [encode]

theorem decodeMiscMem_encodes (ho : opcodeOf w = 0x0F#7) (h : decodeMiscMem w = .ok i) : Encodes i w := by
  unfold decodeMiscMem at h
  split_ifs at h with h0 h1 <;> cases h
  · exact ⟨by simpa [encode, h0, ho] using encFence_fields w, rfl, rfl⟩
  · exact ⟨by simpa [encode, h1, ho] using encI_fields w, rfl, rfl⟩

theorem decodeSystem_encodes (h : decodeSystem w = .ok i) : Encodes i w := by
  unfold decodeSystem at h
  split at h
  case isTrue hw => cases h; exact ⟨hw.symm, rfl, rfl⟩
  case isFalse =>
    split at h
    case isTrue hw => cases h; exact ⟨hw.symm, rfl, rfl⟩
    case isFalse => cases h

/-- A 32-bit word the Decoder accepts is the encoding of what it gives (R62). -/
theorem decode32_encodes (h : decode32 w = .ok i) : Encodes i w := by
  by_cases hspace : opcodeOf w ∈ [0x33#7, 0x3B#7, 0x13#7, 0x1B#7, 0x03#7, 0x23#7, 0x63#7, 0x67#7, 0x6F#7, 0x37#7,
    0x17#7, 0x0F#7, 0x73#7]
  · simp only [List.mem_cons, List.not_mem_nil, or_false] at hspace
    rcases hspace with ho | ho | ho | ho | ho | ho | ho | ho | ho | ho | ho | ho | ho
    · exact decodeOp_encodes ho ((decode32_of_op ho).symm.trans h)
    · exact decodeOp32_encodes ho ((decode32_of_op32 ho).symm.trans h)
    · exact decodeOpImm_encodes ho ((decode32_of_opImm ho).symm.trans h)
    · exact decodeOpImm32_encodes ho ((decode32_of_opImm32 ho).symm.trans h)
    · exact decodeLoad_encodes ho ((decode32_of_load ho).symm.trans h)
    · exact decodeStore_encodes ho ((decode32_of_store ho).symm.trans h)
    · exact decodeBranch_encodes ho ((decode32_of_branch ho).symm.trans h)
    · rw [decode32_of_jalr ho] at h
      split_ifs at h with h3
      cases h
      exact ⟨by simpa [encode, ho, h3] using encI_fields w, rfl, rfl⟩
    · cases (decode32_of_jal ho).symm.trans h
      exact ⟨by simpa [encode, ho] using encJ_fields w, rfl, lowZero_immJOf w⟩
    · cases (decode32_of_lui ho).symm.trans h
      exact ⟨by simpa [encode, ho] using encU_fields w, rfl, rfl⟩
    · cases (decode32_of_auipc ho).symm.trans h
      exact ⟨by simpa [encode, ho] using encU_fields w, rfl, rfl⟩
    · exact decodeMiscMem_encodes ho ((decode32_of_miscMem ho).symm.trans h)
    · exact decodeSystem_encodes ((decode32_of_system ho).symm.trans h)
  · cases (decode32_of_no_space hspace).symm.trans h

end Accepted

/-- `i` is a well-formed instruction of 16 bits whose encoding is `h`. -/
def EncodesParcel (i : Instr) (h : Parcel) : Prop :=
  encode i = h.setWidth 32 ∧ lenOf i = .two ∧ i.wellFormed = true

section AcceptedParcels

variable {h : Parcel} {i : Instr}

theorem decodeQuadrant0_encodes (hq : quadrantOf h = 0#2) (hd : decodeQuadrant0 h = .ok i) : EncodesParcel i h := by
  have hiw := encCiw_fields h
  have hlw := encCl_lw_fields h
  have hld := encCl_ld_fields h
  unfold decodeQuadrant0 at hd
  split_ifs at hd <;> cases hd <;> refine ⟨?_, rfl, ?_⟩ <;> simp_all [encode, Instr.wellFormed]

/-- The last value of a 2-bit field. -/
theorem eq_three_of_ne : ∀ f : BitVec 2, f ≠ 0#2 → f ≠ 1#2 → f ≠ 2#2 → f = 3#2 := by decide

theorem eq_one_of_ne : ∀ b : BitVec 1, b ≠ 0#1 → b = 1#1 := by decide

theorem decodeQuadrant1Alu_encodes (hq : quadrantOf h = 1#2) (h4 : cFunct3Of h = 4#3)
    (hd : decodeQuadrant1Alu h = .ok i) : EncodesParcel i h := by
  have hcb := encCbAlu_fields h
  have hca := encCa_fields h
  have h10 := eq_three_of_ne (h.extractLsb' 10 2)
  have h5 := eq_three_of_ne (h.extractLsb' 5 2)
  have h12 := eq_one_of_ne (h.extractLsb' 12 1)
  unfold decodeQuadrant1Alu at hd
  split_ifs at hd <;> cases hd <;> refine ⟨?_, rfl, rfl⟩ <;> simp_all [encode]

theorem decodeQuadrant1_encodes (hq : quadrantOf h = 1#2) (hd : decodeQuadrant1 h = .ok i) : EncodesParcel i h := by
  have hi := encCi6_fields h
  have hsp := encCi_addi16sp_fields h
  have hlui := encCi_lui_fields h
  have hj := encCj_fields h
  have hb := encCb_fields h
  have h7 := eq_seven_of_ne (cFunct3Of h)
  by_cases h4 : cFunct3Of h = 4#3
  · rw [decodeQuadrant1_alu h4] at hd
    exact decodeQuadrant1Alu_encodes hq h4 hd
  unfold decodeQuadrant1 at hd
  split_ifs at hd <;> cases hd <;> refine ⟨?_, rfl, ?_⟩ <;> simp_all [encode, Instr.wellFormed]

theorem decodeQuadrant2Cr_encodes (hq : quadrantOf h = 2#2) (h4 : cFunct3Of h = 4#3)
    (hd : decodeQuadrant2Cr h = .ok i) : EncodesParcel i h := by
  have hcr := congrArg (BitVec.setWidth 32) (encCr_fields h)
  have hbreak : encCr 9#4 0#5 0#5 2#2 = 0x9002#16 := by decide
  have h12 := eq_one_of_ne (h.extractLsb' 12 1)
  unfold decodeQuadrant2Cr at hd
  split_ifs at hd <;> cases hd <;> refine ⟨?_, rfl, ?_⟩ <;> simp_all [encode, Instr.wellFormed]

theorem decodeQuadrant2_encodes (hq : quadrantOf h = 2#2) (hd : decodeQuadrant2 h = .ok i) : EncodesParcel i h := by
  have hi := encCi6_fields h
  have hlw := encCi_lwsp_fields h
  have hld := encCi_ldsp_fields h
  have hsw := encCss_swsp_fields h
  have hsd := encCss_sdsp_fields h
  by_cases h4 : cFunct3Of h = 4#3
  · rw [decodeQuadrant2_cr h4] at hd
    exact decodeQuadrant2Cr_encodes hq h4 hd
  unfold decodeQuadrant2 at hd
  split_ifs at hd <;> cases hd <;> refine ⟨?_, rfl, ?_⟩ <;> simp_all [encode, Instr.wellFormed]

theorem decode16_encodes (hd : decode16 h = .ok i) : EncodesParcel i h := by
  unfold decode16 at hd
  split_ifs at hd with h0 h1 h2
  · exact decodeQuadrant0_encodes h0 hd
  · exact decodeQuadrant1_encodes h1 hd
  · exact decodeQuadrant2_encodes h2 hd

end AcceptedParcels

end Sys2Proof

namespace Sys2Proof

/-! ## The encodings with no row (R64, R203) -/

section Refused

theorem decodeSystem_refuses {w : InstWord} (h1 : w ≠ 0x00000073#32) (h2 : w ≠ 0x00100073#32) :
    decodeSystem w = .error .systemWord := by
  rw [decodeSystem, if_neg h1, if_neg h2]

variable {f3 : BitVec 3}

theorem decodeLoad_refuses (h : f3 = 7) (rd rs1 : Reg) (imm : BitVec 12) :
    decodeLoad f3 rd rs1 imm = .error .noRow := by
  simp [decodeLoad, h]

theorem decodeStore_refuses (h : 4 ≤ f3.toNat) (rs2 rs1 : Reg) (imm : BitVec 12) :
    decodeStore f3 rs2 rs1 imm = .error .noRow := by
  have hne : f3 ≠ 0#3 ∧ f3 ≠ 1#3 ∧ f3 ≠ 2#3 ∧ f3 ≠ 3#3 := by
    refine ⟨?_, ?_, ?_, ?_⟩ <;> rintro rfl <;> simp at h
  simp [decodeStore, hne]

theorem decodeBranch_refuses (h : f3 = 2 ∨ f3 = 3) (rs1 rs2 : Reg) (off : BitVec 13) :
    decodeBranch f3 rs1 rs2 off = .error .noRow := by
  rcases h with h | h <;> simp [decodeBranch, h]

theorem decodeMiscMem_refuses {w : InstWord} (h : 2 ≤ (funct3Of w).toNat) : decodeMiscMem w = .error .noRow := by
  have hne : funct3Of w ≠ 0#3 ∧ funct3Of w ≠ 1#3 := by
    constructor <;> intro hf <;> simp [hf] at h
  simp [decodeMiscMem, hne]

theorem decodeOpImm_refuses {f6 : BitVec 6} (h : (f3 = 1 ∧ f6 ≠ 0) ∨ (f3 = 5 ∧ f6 ∉ [0x00, 0x10])) (rd rs1 : Reg)
    (imm : BitVec 12) (shamt : BitVec 6) : decodeOpImm f6 f3 rd rs1 imm shamt = .error .noRow := by
  rcases h with ⟨h3, h6⟩ | ⟨h3, h6⟩
  · simp_all [decodeOpImm]
  · simp_all [decodeOpImm]

theorem decodeOpImm32_refuses {f7 : BitVec 7}
    (h : f3 ∈ [2, 3, 4, 6, 7] ∨ (f3 = 1 ∧ f7 ≠ 0) ∨ (f3 = 5 ∧ f7 ∉ [0x00, 0x20])) (rd rs1 : Reg) (imm : BitVec 12)
    (shamt : BitVec 5) : decodeOpImm32 f7 f3 rd rs1 imm shamt = .error .noRow := by
  rcases h with h3 | ⟨h3, h7⟩ | ⟨h3, h7⟩
  · simp only [List.mem_cons, List.not_mem_nil, or_false] at h3
    rcases h3 with rfl | rfl | rfl | rfl | rfl <;> rfl
  · simp_all [decodeOpImm32]
  · simp_all [decodeOpImm32]

theorem decodeOp_refuses {f7 : BitVec 7} (h : f7 ∉ [0x00, 0x01, 0x20] ∨ (f7 = 0x20 ∧ f3 ∉ [0, 5])) (rd rs1 rs2 : Reg) :
    decodeOp f7 f3 rd rs1 rs2 = .error .noRow := by
  rcases h with h7 | ⟨h7, h3⟩
  · simp_all [decodeOp]
  · simp_all [decodeOp]

theorem decodeOp32_refuses {f7 : BitVec 7}
    (h : f7 ∉ [0x00, 0x01, 0x20] ∨ (f7 = 0x00 ∧ f3 ∉ [0, 1, 5]) ∨ (f7 = 0x01 ∧ f3 ∉ [0, 4, 5, 6, 7]) ∨
      (f7 = 0x20 ∧ f3 ∉ [0, 5])) (rd rs1 rs2 : Reg) : decodeOp32 f7 f3 rd rs1 rs2 = .error .noRow := by
  rcases h with h7 | ⟨h7, h3⟩ | ⟨h7, h3⟩ | ⟨h7, h3⟩
  · simp_all [decodeOp32]
  · simp_all [decodeOp32]
  · simp_all [decodeOp32]
  · simp_all [decodeOp32]

/-- The 16-bit words R203 lists as reserved. -/
def ReservedParcel (h : Parcel) : Prop :=
  h = 0 ∨
  (quadrantOf h = 0 ∧ cFunct3Of h ∈ [1, 4, 5]) ∨
  (quadrantOf h = 0 ∧ cFunct3Of h = 0 ∧ cImmAddi4spn h = 0) ∨
  (quadrantOf h = 1 ∧ cFunct3Of h = 1 ∧ cRdOf h = 0) ∨
  (quadrantOf h = 1 ∧ cFunct3Of h = 3 ∧ h.extractLsb' 12 1 = 0 ∧ h.extractLsb' 2 5 = 0) ∨
  (quadrantOf h = 1 ∧ cFunct3Of h = 4 ∧ h.extractLsb' 12 1 = 1 ∧ h.extractLsb' 10 2 = 3 ∧
    2 ≤ (h.extractLsb' 5 2).toNat) ∨
  (quadrantOf h = 2 ∧ cFunct3Of h ∈ [1, 5]) ∨
  (quadrantOf h = 2 ∧ cFunct3Of h ∈ [2, 3] ∧ cRdOf h = 0) ∨
  (quadrantOf h = 2 ∧ cFunct3Of h = 4 ∧ h.extractLsb' 12 1 = 0 ∧ cRdOf h = 0 ∧ cRs2Of h = 0)

/-- A field inside a field. -/
theorem extractLsb'_of_field {n : Nat} (x : BitVec n) {s k t j : Nat} (hj : t + j ≤ k) :
    x.extractLsb' (s + t) j = (x.extractLsb' s k).extractLsb' t j := by
  ext i hi
  simp [show t + i < k by omega, Nat.add_assoc]

theorem cImmAddi16sp_eq_zero {h : Parcel} (h12 : h.extractLsb' 12 1 = 0) (h2 : h.extractLsb' 2 5 = 0) :
    cImmAddi16sp h = 0 := by
  have sub : ∀ t j, t + j ≤ 5 → h.extractLsb' (2 + t) j = 0#j := fun t j hj => by
    rw [extractLsb'_of_field h hj, h2]
    simp
  simp [cImmAddi16sp, h12, sub 0 1, sub 1 2, sub 3 1, sub 4 1]

theorem cImmLui_eq_zero {h : Parcel} (h12 : h.extractLsb' 12 1 = 0) (h2 : h.extractLsb' 2 5 = 0) : cImmLui h = 0 := by
  simp [cImmLui, h12, h2]

theorem decode16_refuses {h : Parcel} (hr : ReservedParcel h) : decode16 h = .error .reservedCompressed := by
  rcases hr with rfl | ⟨hq, h3⟩ | ⟨hq, h3, hi⟩ | ⟨hq, h3, hd⟩ | ⟨hq, h3, h12, h2⟩ | ⟨hq, h3, h12, h10, h5⟩ | ⟨hq, h3⟩ |
    ⟨hq, h3, hd⟩ | ⟨hq, h3, h12, hd, h2⟩
  · rfl
  · simp only [List.mem_cons, List.not_mem_nil, or_false] at h3
    rcases h3 with h3 | h3 | h3 <;> simp [decode16_quadrant0 hq, decodeQuadrant0, h3]
  · simp [decode16_quadrant0 hq, decodeQuadrant0, h3, hi]
  · simp [decode16_quadrant1 hq, decodeQuadrant1, h3, hd]
  · simp [decode16_quadrant1 hq, decodeQuadrant1, h3, cImmAddi16sp_eq_zero h12 h2, cImmLui_eq_zero h12 h2]
  · have hne : h.extractLsb' 5 2 ≠ 0#2 ∧ h.extractLsb' 5 2 ≠ 1#2 := by
      constructor <;> intro hf <;> simp [hf] at h5
    simp [decode16_quadrant1 hq, decodeQuadrant1, decodeQuadrant1Alu, h3, h12, h10, hne]
  · simp only [List.mem_cons, List.not_mem_nil, or_false] at h3
    rcases h3 with h3 | h3 <;> simp [decode16_quadrant2 hq, decodeQuadrant2, h3]
  · simp only [List.mem_cons, List.not_mem_nil, or_false] at h3
    rcases h3 with h3 | h3 <;> simp [decode16_quadrant2 hq, decodeQuadrant2, h3, hd]
  · simp [decode16_quadrant2 hq, decodeQuadrant2, decodeQuadrant2Cr, h3, h12, hd, h2]

end Refused

end Sys2Proof

namespace Sys2Proof.Machine

/-- Settles O2, space by space. -/
theorem encodeOfDecode : Obligations.EncodeOfDecode :=
  ⟨fun _ _ h => decode32_encodes h, fun p _ h => decode16_encodes ((decode_two p).symm.trans h)⟩

/-- Settles O4: the Decoder, run on each word. -/
theorem specExampleWordsDecode : Obligations.SpecExampleWordsDecode := by
  refine ⟨?_, ?_, ?_, ?_, ?_, ?_, ?_, ?_, ?_, ?_, ?_⟩ <;> decide

/-- Settles O5, space by space. -/
theorem illegalWordsAreRefused : Obligations.IllegalWordsAreRefused := by
  refine ⟨fun w h => ?opcode, fun w ho h1 h2 => ?system, fun w h => ?funct3, fun w ho h => ?opImm,
    fun w ho h => ?opImm32, fun w ho h => ?op, fun w ho h => ?op32, fun p h => ?parcel⟩
  case opcode => exact ⟨_, decode32_of_no_space h⟩
  case system => exact ⟨_, (decode32_of_system ho).trans (decodeSystem_refuses h1 h2)⟩
  case funct3 =>
    rcases h with ⟨ho, h⟩ | ⟨ho, h⟩ | ⟨ho, h⟩ | ⟨ho, h⟩ | ⟨ho, h⟩
    · exact ⟨_, (decode32_of_load ho).trans (decodeLoad_refuses h ..)⟩
    · exact ⟨_, (decode32_of_store ho).trans (decodeStore_refuses h ..)⟩
    · exact ⟨_, (decode32_of_branch ho).trans (decodeBranch_refuses h ..)⟩
    · exact ⟨_, (decode32_of_jalr ho).trans (if_neg h)⟩
    · exact ⟨_, (decode32_of_miscMem ho).trans (decodeMiscMem_refuses h)⟩
  case opImm => exact ⟨_, (decode32_of_opImm ho).trans (decodeOpImm_refuses h ..)⟩
  case opImm32 => exact ⟨_, (decode32_of_opImm32 ho).trans (decodeOpImm32_refuses h ..)⟩
  case op => exact ⟨_, (decode32_of_op ho).trans (decodeOp_refuses h ..)⟩
  case op32 => exact ⟨_, (decode32_of_op32 ho).trans (decodeOp32_refuses h ..)⟩
  case parcel => exact ⟨_, (decode_two p).trans (decode16_refuses h)⟩

end Sys2Proof.Machine

/-!
PROOF. The decoded record of an instruction (spec/10_state.md R27): a compressed form's is its expansion's
(spec/48_compressed.md R202), the fusible pairs by instruction (spec/41_hazards_and_flush.md R110), and every meaning as
the sequential step over the record (spec/70_reset_and_hazards.md R264).
-/

namespace Sys2Proof.Machine

/-! ## Immediates of an expansion -/

theorem sext_signExtend {w m : Nat} (v : BitVec w) (h : w ≤ m) (hm : m ≤ 64) : sext (v.signExtend m) = sext v := by
  apply BitVec.eq_of_toInt_eq
  rw [sext, sext, BitVec.toInt_signExtend_of_le hm, BitVec.toInt_signExtend_of_le h,
    BitVec.toInt_signExtend_of_le (h.trans hm)]

/-- The sign bit of a zero-extended value is 0. -/
theorem msb_setWidth_of_lt {w m : Nat} (v : BitVec w) (h : w < m) : (v.setWidth m).msb = false := by
  rw [BitVec.msb_setWidth]
  rw [BitVec.getLsbD_of_ge v (m - 1) (by omega), Bool.and_false]

theorem sext_setWidth {w m : Nat} (v : BitVec w) (h : w < m) : sext (v.setWidth m) = zext v := by
  rw [sext, zext, BitVec.signExtend_eq_setWidth_of_msb_false (msb_setWidth_of_lt v h)]
  apply BitVec.eq_of_toNat_eq
  have hv := v.isLt
  have hpow : 2 ^ w ≤ 2 ^ m := Nat.pow_le_pow_right (by decide) h.le
  simp [Nat.mod_eq_of_lt (hv.trans_le hpow)]

theorem lowZero_signExtend {w m n : Nat} {v : BitVec w} (hw : n ≤ w) (hm : w ≤ m) (h : lowZero n v = true) :
    lowZero n (v.signExtend m) = true := by
  rw [lowZero_iff] at h ⊢
  rw [← h]
  ext i hi
  simp [BitVec.getElem_signExtend, show i < m by omega, show i < w by omega]

/-- The U immediate of C.LUI's expansion is C.LUI's own. -/
theorem immU_of_cLui {v : BitVec 18} (h : lowZero 12 v = true) :
    immU ((v.extractLsb' 12 6).signExtend 20) = sext v := by
  have hv : v = v.extractLsb' 12 6 ++ 0#12 := by
    rw [← (lowZero_iff 12 v).1 h]
    simp
  apply BitVec.eq_of_toInt_eq
  rw [immU, sext, BitVec.toInt_signExtend_of_le (by decide), BitVec.toInt_append_zero,
    BitVec.toInt_signExtend_of_le (by decide), BitVec.toInt_signExtend_of_le (by decide), hv,
    BitVec.toInt_append_zero, ← hv]

/-- Settles O3, form by form: only the immediates need a word. -/
theorem compressedRecordIsExpansions : Obligations.CompressedRecordIsExpansions := by
  intro i hwf hlen
  cases i
  case cAddi4spn | cLw | cLd | cSw | cSd | cLwsp | cLdsp | cSwsp | cSdsp =>
    exact ⟨rfl, rfl, by simp [recordOf, expand, compressed, sext_setWidth], rfl⟩
  case cNop | cAddi | cAddiw | cLi | cAddi16sp | cAndi =>
    exact ⟨rfl, rfl, by simp [recordOf, expand, compressed, sext_signExtend], rfl⟩
  case cJ | cBeqz | cBnez =>
    exact ⟨rfl, lowZero_signExtend (by decide) (by decide) hwf,
      by simp [recordOf, expand, compressed, sext_signExtend], rfl⟩
  case cLui rd nzimm =>
    simp only [Instr.wellFormed, Bool.and_eq_true] at hwf
    obtain ⟨-, hzero, -⟩ := hwf
    exact ⟨rfl, rfl, by simp [recordOf, expand, compressed, immU_of_cLui hzero], rfl⟩
  case cJr | cJalr => exact ⟨rfl, rfl, rfl, rfl⟩
  case cSrli | cSrai | cSub | cXor | cOr | cAnd | cSubw | cAddw | cSlli | cMv | cEbreak | cAdd =>
    exact ⟨rfl, rfl, rfl, rfl⟩
  all_goals cases hlen

/-! ## The fusible pairs -/

section FusibleHalves

variable (i : Instr) (r : Reg)

theorem recordOf_lui_iff : (recordOf i).op = .lui ∧ (recordOf i).rd = r ↔ ∃ u, expand i = .lui r u := by
  constructor
  · rintro ⟨h, rfl⟩
    cases i with
    | lui | cLui => exact ⟨_, rfl⟩
    | _ => cases h
  · rintro ⟨u, he⟩
    obtain ⟨hop, hrd, -, -⟩ := recordOf_expand i
    rw [hop, hrd, he]
    exact ⟨rfl, rfl⟩

theorem recordOf_auipc_iff : (recordOf i).op = .auipc ∧ (recordOf i).rd = r ↔ ∃ u, expand i = .auipc r u := by
  constructor
  · rintro ⟨h, rfl⟩
    cases i with
    | auipc => exact ⟨_, rfl⟩
    | _ => cases h
  · rintro ⟨u, he⟩
    obtain ⟨hop, hrd, -, -⟩ := recordOf_expand i
    rw [hop, hrd, he]
    exact ⟨rfl, rfl⟩

theorem recordOf_addi_iff :
    (recordOf i).op = .addi ∧ (recordOf i).rd = r ∧ (recordOf i).rs1 = r ↔ ∃ x, expand i = .addi r r x := by
  constructor
  · rintro ⟨h, hrd, hrs1⟩
    cases i with
    | addi | cAddi4spn | cNop | cAddi | cLi | cAddi16sp => cases hrd; exact ⟨_, congrArg₂ (Instr.addi _) hrs1 rfl⟩
    | _ => cases h
  · rintro ⟨x, he⟩
    obtain ⟨hop, hrd, hrs1, -⟩ := recordOf_expand i
    rw [hop, hrd, hrs1, he]
    exact ⟨rfl, rfl, rfl⟩

theorem recordOf_addiw_iff :
    (recordOf i).op = .addiw ∧ (recordOf i).rd = r ∧ (recordOf i).rs1 = r ↔ ∃ x, expand i = .addiw r r x := by
  constructor
  · rintro ⟨h, hrd, hrs1⟩
    cases i with
    | addiw | cAddiw => cases hrd; exact ⟨_, congrArg₂ (Instr.addiw _) hrs1 rfl⟩
    | _ => cases h
  · rintro ⟨x, he⟩
    obtain ⟨hop, hrd, hrs1, -⟩ := recordOf_expand i
    rw [hop, hrd, hrs1, he]
    exact ⟨rfl, rfl, rfl⟩

theorem zext_eq_32_iff (shamt : BitVec 6) : zext shamt = 32 ↔ shamt = 32 := by
  unfold zext
  bv_omega

theorem recordOf_slli_iff :
    (recordOf i).op = .slli ∧ (recordOf i).rd = r ∧ (recordOf i).imm = 32 ↔ ∃ src, expand i = .slli r src 32 := by
  constructor
  · rintro ⟨h, rfl, himm⟩
    cases i with
    | slli | cSlli => exact ⟨_, congrArg (Instr.slli _ _) ((zext_eq_32_iff _).1 himm)⟩
    | _ => cases h
  · rintro ⟨src, he⟩
    cases i with
    | slli | cSlli => cases he; exact ⟨rfl, rfl, rfl⟩
    | _ => cases he

theorem recordOf_srli_iff :
    (recordOf i).op = .srli ∧ (recordOf i).rd = r ∧ (recordOf i).rs1 = r ∧ (recordOf i).imm = 32 ↔
      expand i = .srli r r 32 := by
  constructor
  · rintro ⟨h, rfl, hrs1, himm⟩
    cases i with
    | srli | cSrli => exact congrArg₂ (Instr.srli _) hrs1 ((zext_eq_32_iff _).1 himm)
    | _ => cases h
  · intro he
    cases i with
    | srli | cSrli => cases he; exact ⟨rfl, rfl, rfl, rfl⟩
    | _ => cases he

end FusibleHalves

/-- R110's table over the records. -/
theorem fusiblePattern_iff (p q : Decoded) :
    fusiblePattern p q = true ↔ ∃ r, r ≠ 0 ∧
      (((p.op = .lui ∧ p.rd = r) ∧
          ((q.op = .addi ∧ q.rd = r ∧ q.rs1 = r) ∨ (q.op = .addiw ∧ q.rd = r ∧ q.rs1 = r))) ∨
        ((p.op = .auipc ∧ p.rd = r) ∧ (q.op = .addi ∧ q.rd = r ∧ q.rs1 = r)) ∨
        ((p.op = .slli ∧ p.rd = r ∧ p.imm = 32) ∧ (q.op = .srli ∧ q.rd = r ∧ q.rs1 = r ∧ q.imm = 32))) := by
  simp only [fusiblePattern, Bool.and_eq_true, Bool.or_eq_true, bne_iff_ne, beq_iff_eq, ne_eq]
  constructor
  · rintro ⟨⟨⟨h0, hrd⟩, hrs1⟩, h⟩
    exact ⟨p.rd, h0, by tauto⟩
  · rintro ⟨r, h0, h⟩
    rcases h with ⟨⟨ho, rfl⟩, h⟩ | ⟨⟨ho, rfl⟩, h⟩ | ⟨⟨ho, rfl, hi⟩, h⟩ <;> tauto

theorem fusiblePair_iff (p q : MicroOp) :
    fusiblePair p q = true ↔
      p.fault = none ∧ q.fault = none ∧ ∃ a b, p.dec = some a ∧ q.dec = some b ∧ fusiblePattern a b = true := by
  unfold fusiblePair
  cases p.dec <;> cases q.dec <;> simp [MicroOp.clean_iff, and_assoc]

/-- Settles O50: the table over the records, and each half of a pattern by instruction. -/
theorem fusiblePairsAreTheTable : Obligations.FusiblePairsAreTheTable := by
  refine ⟨fun i j _ _ => ?_, fusiblePair_iff⟩
  simp only [fusiblePattern_iff, recordOf_lui_iff, recordOf_auipc_iff, recordOf_addi_iff, recordOf_addiw_iff,
    recordOf_slli_iff, recordOf_srli_iff, ← exists_or, exists_and_left, exists_and_right]

/-! ## Every meaning is the step over its record -/

theorem finishLoad_eq (n : Nat) (sg : Bool) (rd : Reg) (a : Word) (len : Len) (s : State) :
    finishLoad n sg rd a len s =
      .next (if s.inRange a n then (s.setReg rd (extendLoad n sg (s.memRead a n))).setPc (s.pcAfter len)
        else s.raise (.memoryFault s.pc a)) := by
  unfold finishLoad finishReg
  split_ifs <;> rfl

theorem finishStore_eq (n : Nat) (v a : Word) (len : Len) (s : State) :
    finishStore n v a len s =
      .next (if s.inRange a n then (s.memWrite a n v).setPc (s.pcAfter len) else s.raise (.memoryFault s.pc a)) := by
  unfold finishStore
  split_ifs <;> rfl

/-- The meaning of every instruction is R14's step over its record. -/
theorem exec_eq_recordStep (i : Instr) (s : State) : exec i s = .next (s.recordStep (recordOf i)) := by
  cases i
  case lb | lh | lw | ld | lbu | lhu | lwu | cLw | cLd | cLwsp | cLdsp => exact finishLoad_eq ..
  case sb | sh | sw | sd | cSw | cSd | cSwsp | cSdsp => exact finishStore_eq ..
  case ecall => exact finishCall_eq ..
  all_goals rfl

theorem State.referenceStep_eq (s : State) : s.referenceStep = .next (s.referenceStepWith .reference) := by
  unfold State.referenceStepWith
  rcases s.referenceStep_cases with ⟨hf, h⟩ | ⟨len, word, e, hf, hd, h⟩ | ⟨len, word, i, hf, hd, h⟩
  · simp [h, hf]
  · simp [h, hf, decodeRecord_error hd]
  · simp [h, hf, decodeRecord_ok hd, exec_eq_recordStep]

/-- Settles O30, instruction by instruction. -/
theorem meaningIsTheRecordStep : Obligations.MeaningIsTheRecordStep := by
  refine ⟨exec_eq_recordStep, fun s => ?_⟩
  unfold step stepWith
  rw [s.referenceStep_eq]

end Sys2Proof.Machine

/-!
PROOF. Steps of the sequential reference (spec/70_reset_and_hazards.md R264 items 1 and 2): the instruction fetched at pc,
the instruction whose encoding stands at pc, and the two errors of a fetch.
-/

namespace Sys2Proof

/-! ## The length of an instruction, from what the Decoder accepts -/

theorem lenOfParcel_of_decode16 {h : Parcel} {i : Instr} (hd : decode16 h = .ok i) : lenOfParcel h = .two := by
  rw [lenOfParcel, if_neg]
  intro hq
  have hq : quadrantOf h = 3#2 := hq
  simp [decode16, hq] at hd

theorem lowBits_of_decode32 {w : InstWord} {i : Instr} (hd : decode32 w = .ok i) : w.extractLsb' 0 2 = 3#2 := by
  have hspace : opcodeOf w ∈ [0x33#7, 0x3B#7, 0x13#7, 0x1B#7, 0x03#7, 0x23#7, 0x63#7, 0x67#7, 0x6F#7, 0x37#7,
      0x17#7, 0x0F#7, 0x73#7] := by
    by_contra hno
    cases (decode32_of_no_space hno).symm.trans hd
  have hlow : (opcodeOf w).extractLsb' 0 2 = w.extractLsb' 0 2 := (extractLsb'_of_field w (s := 0) (by decide)).symm
  rw [← hlow]
  generalize opcodeOf w = op at hspace
  simp only [List.mem_cons, List.not_mem_nil, or_false] at hspace
  rcases hspace with rfl | rfl | rfl | rfl | rfl | rfl | rfl | rfl | rfl | rfl | rfl | rfl | rfl <;> rfl

/-- The first parcel of what the Decoder accepts gives the length it was decoded at (R57). -/
theorem lenOfParcel_of_decode {w : InstWord} {len : Len} {i : Instr} (hd : decode w len = .ok i) :
    lenOfParcel (w.setWidth 16) = len := by
  cases len with
  | two => exact lenOfParcel_of_decode16 hd
  | four =>
    have hlow : (w.setWidth 16).extractLsb' 0 2 = w.extractLsb' 0 2 := by
      ext k hk
      simp [show k < 16 by omega]
    rw [lenOfParcel, if_pos (hlow.trans (lowBits_of_decode32 hd))]

end Sys2Proof

namespace Sys2Proof.Machine

/-! ## The word that stands at an address -/

theorem Memory.readLE_of_bytes {m : Memory} {a n v : Nat}
    (h : ∀ k < n, m.byte (a + k) = BitVec.ofNat 8 (v / 256 ^ k)) : m.readLE a n = v % 256 ^ n := by
  induction n generalizing a v with
  | zero => simp [Memory.readLE, Nat.mod_one]
  | succ n ih =>
    have first : (m.byte a).toNat = v % 256 := by
      have h0 := h 0 (by omega)
      simp_all
    have rest : m.readLE (a + 1) n = v / 256 % 256 ^ n := ih fun k hk => by
      rw [show a + 1 + k = a + (k + 1) by omega, h (k + 1) (by omega), Nat.div_div_eq_div_mul, pow_succ']
    rw [Memory.readLE, first, rest, pow_succ', Nat.mod_mul]

theorem State.memRead_of_bytes {s : State} {a : Word} {n : Nat} {w : InstWord}
    (h : ∀ k < n, s.mem.byte (a.toNat + k) = w.extractLsb' (8 * k) 8) : s.memRead a n = w.toNat % 256 ^ n :=
  Memory.readLE_of_bytes fun k hk => by
    rw [h k hk]
    apply BitVec.eq_of_toNat_eq
    rw [BitVec.extractLsb'_toNat, BitVec.toNat_ofNat, Nat.shiftRight_eq_div_pow, show (256 : Nat) = 2 ^ 8 from rfl,
      ← pow_mul]

/-- The parcel at an address has the low bits of its first byte. -/
theorem State.lenOfParcel_memRead (s : State) (a : Word) :
    lenOfParcel (BitVec.ofNat 16 (s.memRead a 2)) =
      if (s.mem.byte a.toNat).extractLsb' 0 2 = 3 then .four else .two := by
  have hlow : (BitVec.ofNat 16 (s.memRead a 2)).extractLsb' 0 2 = (s.mem.byte a.toNat).extractLsb' 0 2 := by
    apply BitVec.eq_of_toNat_eq
    simp [State.memRead, Memory.readLE]
    omega
  rw [lenOfParcel, hlow]
  rfl

theorem State.inRange_iff_inRegion (s : State) (a : Word) (n : Nat) : s.inRange a n = true ↔ InRegion s a n :=
  s.inRange_iff a n

theorem State.fetchWord_of_outside {s : State} {a : Word} (h : ¬ InRegion s a 2) : s.fetchWord a = none := by
  simp [State.fetchWord, mt (s.inRange_iff_inRegion a 2).1 h]

theorem State.fetchWord_of_two {s : State} {a : Word} (h2 : InRegion s a 2)
    (hlen : lenOfParcel (BitVec.ofNat 16 (s.memRead a 2)) = .two) :
    s.fetchWord a = some (.two, BitVec.ofNat 32 (s.memRead a 2)) := by
  simp [State.fetchWord, (s.inRange_iff_inRegion a 2).2 h2, hlen]

theorem State.fetchWord_of_four {s : State} {a : Word} (h2 : InRegion s a 2)
    (hlen : lenOfParcel (BitVec.ofNat 16 (s.memRead a 2)) = .four) :
    s.fetchWord a = if s.inRange a 4 then some (.four, BitVec.ofNat 32 (s.memRead a 4)) else none := by
  simp [State.fetchWord, (s.inRange_iff_inRegion a 2).2 h2, hlen]

theorem InRegion.mono {s : State} {a : Word} {n k : Nat} (h : InRegion s a n) (hk : k ≤ n) : InRegion s a k :=
  ⟨h.1, by have := h.2; omega⟩

/-- A word the Decoder accepts, with its bytes in the region, is what a fetch gives. -/
theorem State.fetchWord_of_bytes {s : State} {a : Word} {len : Len} {w : InstWord} {i : Instr}
    (hd : decode w len = .ok i) (hw : w.toNat < 256 ^ len.bytes) (hin : InRegion s a len.bytes)
    (hb : ∀ k < len.bytes, s.mem.byte (a.toNat + k) = w.extractLsb' (8 * k) 8) : s.fetchWord a = some (len, w) := by
  have h2 : 2 ≤ len.bytes := by cases len <;> decide
  have hparcel : BitVec.ofNat 16 (s.memRead a 2) = w.setWidth 16 := by
    rw [State.memRead_of_bytes fun k hk => hb k (by omega)]
    apply BitVec.eq_of_toNat_eq
    simp
  have hlen : lenOfParcel (BitVec.ofNat 16 (s.memRead a 2)) = len := by rw [hparcel, lenOfParcel_of_decode hd]
  have hword : BitVec.ofNat 32 (s.memRead a len.bytes) = w := by
    rw [State.memRead_of_bytes hb, Nat.mod_eq_of_lt hw, BitVec.ofNat_toNat, BitVec.setWidth_eq]
  cases len with
  | two => rw [State.fetchWord_of_two hin hlen, ← hword]; rfl
  | four =>
    rw [State.fetchWord_of_four (hin.mono h2) hlen, if_pos ((s.inRange_iff_inRegion a 4).2 hin), ← hword]
    rfl

/-- The encoding of an instruction has no bits beyond its length. -/
theorem encode_lt {i : Instr} (h : i.wellFormed = true) : (encode i).toNat < 256 ^ (lenOf i).bytes := by
  have hd := decodeOfEncode i h
  cases hl : lenOf i with
  | four => exact (encode i).isLt
  | two =>
    rw [hl] at hd
    obtain ⟨he, -, -⟩ := decode16_encodes hd
    rw [he, BitVec.toNat_setWidth_of_le (by decide)]
    exact ((encode i).setWidth 16).isLt

/-! ## The step -/

theorem step_reference {s : State} (hc : configError s.cfg s.plat = none) (hs : s.status = .running)
    (he : s.engine = .reference) : step s = s.referenceStep := by
  simp [step, hc, hs, he]

/-- Settles O6. -/
theorem stepRunsTheDecodedInstruction : Obligations.StepRunsTheDecodedInstruction := by
  intro s len word i hc hs he hf hd
  simp [step_reference hc hs he, State.referenceStep, hf, hd]

/-- Settles O7: the encoded bytes are fetched as the encoding, which decodes to the instruction. -/
theorem encodedBytesAtPcRun : Obligations.EncodedBytesAtPcRun := by
  intro s i hc hs he hwf hin hb
  have hd := decodeOfEncode i hwf
  exact stepRunsTheDecodedInstruction s _ _ i hc hs he (State.fetchWord_of_bytes hd (encode_lt hwf) hin hb) hd

/-- Settles O8: each error is a status of the state as it was. -/
theorem fetchErrorsEndTheReferenceRun : Obligations.FetchErrorsEndTheReferenceRun := by
  intro s hc hs he
  rw [step_reference hc hs he]
  have fault : s.fetchWord s.pc = none → EndsRun s s.referenceStep (.error (.fetchFault s.pc)) := fun hf => by
    rw [State.referenceStep, hf]
    exact endsRun_setStatus s _
  refine ⟨fun h2 => fault (State.fetchWord_of_outside h2), fun h2 hlow h4 => fault ?_, fun len word e hf hd => ?_⟩
  · rw [State.fetchWord_of_four h2 (by rw [s.lenOfParcel_memRead, if_pos hlow]),
      if_neg (mt (s.inRange_iff_inRegion s.pc 4).1 h4)]
  · simp only [State.referenceStep, hf, hd]
    exact endsRun_setStatus s _

end Sys2Proof.Machine

/-!
PROOF. What the value functions of the computational instructions give, as integers or bit by bit
(spec/43_integer_alu.md R136 to R165, spec/44_muldiv.md R166 to R178, spec/45_control_transfer.md R179 to R186).
-/

namespace Sys2Proof.Machine

/-! ## Immediates -/

theorem sext_eq_ofInt {w : Nat} (v : BitVec w) : sext v = BitVec.ofInt 64 v.toInt := rfl

theorem toInt_sext {w : Nat} (v : BitVec w) (h : w ≤ 64) : (sext v).toInt = v.toInt := BitVec.toInt_signExtend_of_le h

theorem toNat_sext {w : Nat} (v : BitVec w) : ((sext v).toNat : Int) = v.toInt % 2 ^ 64 := by
  rw [sext_eq_ofInt, BitVec.toNat_ofInt]
  omega

theorem toNat_zext {w : Nat} (v : BitVec w) (h : w ≤ 64) : (zext v).toNat = v.toNat := BitVec.toNat_setWidth_of_le h

theorem toInt_immU (imm20 : BitVec 20) : (immU imm20).toInt = imm20.toInt * 2 ^ 12 := by
  rw [immU, BitVec.toInt_signExtend_of_le (by decide), BitVec.toInt_append_zero, mul_comm]

/-- Bit `k` of a sign-extended immediate. -/
theorem getLsbD_sext {w k : Nat} (v : BitVec (w + 1)) (hk : k < 64) : (sext v).getLsbD k = v.getLsbD (min k w) := by
  rw [sext, BitVec.getLsbD_signExtend, decide_eq_true hk, Bool.true_and]
  split_ifs with h
  · rw [Nat.min_eq_left (by omega)]
  · rw [Nat.min_eq_right (by omega), BitVec.msb_eq_getLsbD_last, Nat.add_sub_cancel]

/-! ## Sums and differences modulo 2^64 -/

theorem isMod64_add (a b : Word) : isMod64 (a.toNat + b.toNat) (a + b) := by
  simp [isMod64, BitVec.toNat_add]

theorem isMod64_sub (a b : Word) : isMod64 (a.toNat - b.toNat) (a - b) := by
  have ha := a.isLt
  have hb := b.isLt
  simp only [isMod64, BitVec.toNat_sub]
  omega

theorem isMod64_add_sext {w : Nat} (a : Word) (v : BitVec w) : isMod64 (a.toNat + v.toInt) (a + sext v) :=
  isMod64_add_ofInt a v.toInt

theorem isMod64_add_zext {w : Nat} (a : Word) (v : BitVec w) (h : w ≤ 64) :
    isMod64 (a.toNat + v.toNat) (a + zext v) := by
  rw [← toNat_zext v h]
  exact isMod64_add a (zext v)

theorem isMod64_add_immU (a : Word) (imm20 : BitVec 20) :
    isMod64 (a.toNat + imm20.toInt * 2 ^ 12) (a + immU imm20) := by
  have h := isMod64_add_sext a (immU imm20)
  rwa [sext, BitVec.signExtend_eq, toInt_immU] at h

/-! ## Comparisons -/

theorem toNat_aluSlt (a b : Word) : (aluSlt a b).toNat = if a.toInt < b.toInt then 1 else 0 := by
  unfold aluSlt
  split_ifs <;> rfl

theorem toNat_aluSltu (a b : Word) : (aluSltu a b).toNat = if a.toNat < b.toNat then 1 else 0 := by
  unfold aluSltu
  split_ifs <;> rfl

theorem toNat_aluSltu_sext {w : Nat} (a : Word) (v : BitVec w) :
    (aluSltu a (sext v)).toNat = if (a.toNat : Int) < v.toInt % 2 ^ 64 then 1 else 0 := by
  simp only [toNat_aluSltu, ← toNat_sext v, Nat.cast_lt]

/-! ## Shifts -/

theorem shiftAmount_zext {w k : Nat} (v : BitVec w) (h : w ≤ k) (hk : k ≤ 64) :
    ((zext v).extractLsb' 0 k).toNat = v.toNat := by
  have hv : v.toNat < 2 ^ k := v.isLt.trans_le (Nat.pow_le_pow_right (by decide) h)
  rw [BitVec.extractLsb'_toNat, toNat_zext v (h.trans hk), Nat.shiftRight_zero, Nat.mod_eq_of_lt hv]

theorem shiftAmount_reg (b : Word) (k : Nat) : (b.extractLsb' 0 k).toNat = b.toNat % 2 ^ k := by
  rw [BitVec.extractLsb'_toNat, Nat.shiftRight_zero]

theorem isMod64_shiftLeft (a : Word) (n : Nat) : isMod64 (a.toNat * 2 ^ n) (a <<< n) := by
  simp [isMod64, BitVec.toNat_shiftLeft, Nat.shiftLeft_eq]

theorem toNat_shiftRight {w : Nat} (a : BitVec w) (n : Nat) : (a >>> n).toNat = a.toNat / 2 ^ n := by
  rw [BitVec.toNat_ushiftRight, Nat.shiftRight_eq_div_pow]

theorem toInt_sshiftRight (a : Word) (n : Nat) : (a.sshiftRight n).toInt = a.toInt.fdiv (2 ^ n) := by
  rw [BitVec.toInt_sshiftRight, Int.shiftRight_eq_div_pow, Int.fdiv_eq_ediv_of_nonneg _ (by positivity)]
  push_cast
  rfl

section ShiftResults

variable (a b : Word) (shamt : BitVec 6)

theorem aluSll_zext : aluSll a (zext shamt) = a <<< shamt.toNat := by
  rw [aluSll, shiftAmount_zext shamt le_rfl (by decide)]
theorem aluSrl_zext : aluSrl a (zext shamt) = a >>> shamt.toNat := by
  rw [aluSrl, shiftAmount_zext shamt le_rfl (by decide)]
theorem aluSra_zext : aluSra a (zext shamt) = a.sshiftRight shamt.toNat := by
  rw [aluSra, shiftAmount_zext shamt le_rfl (by decide)]
theorem aluSll_reg : aluSll a b = a <<< (b.toNat % 64) := by rw [aluSll, shiftAmount_reg]; rfl
theorem aluSrl_reg : aluSrl a b = a >>> (b.toNat % 64) := by rw [aluSrl, shiftAmount_reg]; rfl
theorem aluSra_reg : aluSra a b = a.sshiftRight (b.toNat % 64) := by rw [aluSra, shiftAmount_reg]; rfl

end ShiftResults

/-! ## The word forms -/

theorem toInt_low32 (a : Word) : (low32 a).toInt = (a.toNat : Int).bmod (2 ^ 32) := by
  rw [BitVec.toInt_eq_toNat_bmod, low32, BitVec.extractLsb'_toNat, Nat.shiftRight_zero]
  exact_mod_cast Int.emod_bmod (a.toNat : Int) (2 ^ 32)

theorem toNat_low32 (a : Word) : (low32 a).toNat = a.toNat % 2 ^ 32 := shiftAmount_reg a 32

/-- The low word of a value known modulo 2^64. -/
theorem isSext32_of_isMod64 {n : Int} {x : Word} (h : isMod64 n x) : isSext32 n (sext (low32 x)) := by
  rw [isSext32, toInt_sext _ (by decide), toInt_low32, h]
  simp only [Int.bmod_def]
  omega

theorem isSext32_sext_of_toNat (v : BitVec 32) : isSext32 v.toNat (sext v) := by
  rw [isSext32, toInt_sext _ (by decide), BitVec.toInt_eq_toNat_bmod]

/-- The low word of a value that is a 32-bit number already. -/
theorem toInt_low32_of_small {y : Word} (h1 : -2 ^ 31 ≤ y.toInt) (h2 : y.toInt < 2 ^ 31) :
    (low32 y).toInt = y.toInt := by
  rw [toInt_low32]
  have hy := y.isLt
  have h := BitVec.toInt_eq_toNat_bmod y
  simp only [Int.bmod_def] at h ⊢
  omega

/-- A quotient by a positive number, rounded down, stays within bounds around 0. -/
theorem fdiv_bounds {x m : Int} {d : Int} (hd : 1 ≤ d) (hm : 0 ≤ m) (h1 : -m ≤ x) (h2 : x < m) :
    -m ≤ x.fdiv d ∧ x.fdiv d < m := by
  rw [Int.fdiv_eq_ediv_of_nonneg _ (by omega)]
  constructor
  · rw [Int.le_ediv_iff_mul_le (by omega)]
    nlinarith
  · rw [Int.ediv_lt_iff_lt_mul (by omega)]
    nlinarith

theorem toInt_sext_low32 (a : Word) : (sext (low32 a)).toInt = (a.toNat : Int).bmod (2 ^ 32) := by
  rw [toInt_sext _ (by decide), toInt_low32]

theorem bmod_bounds (n : Int) : -2 ^ 31 ≤ n.bmod (2 ^ 32) ∧ n.bmod (2 ^ 32) < 2 ^ 31 := by
  simp only [Int.bmod_def]
  omega

/-- An arithmetic right shift of a 32-bit value stays a 32-bit value. -/
theorem toInt_sraw (a : Word) (n : Nat) :
    (sext (low32 ((sext (low32 a)).sshiftRight n))).toInt = ((a.toNat : Int).bmod (2 ^ 32)).fdiv (2 ^ n) := by
  have hy := toInt_sshiftRight (sext (low32 a)) n
  rw [toInt_sext_low32] at hy
  obtain ⟨h1, h2⟩ := bmod_bounds a.toNat
  obtain ⟨b1, b2⟩ := fdiv_bounds (m := 2 ^ 31) (d := 2 ^ n) (one_le_pow₀ (by norm_num)) (by norm_num) h1 h2
  rw [← hy] at b1 b2 ⊢
  rw [toInt_sext _ (by decide)]
  exact toInt_low32_of_small b1 b2

section WordShiftResults

variable (a b : Word) (shamt : BitVec 5)

theorem isSext32_aluSllw_zext : isSext32 (a.toNat * 2 ^ shamt.toNat) (aluSllw a (zext shamt)) := by
  rw [aluSllw, shiftAmount_zext shamt le_rfl (by decide)]
  exact isSext32_of_isMod64 (isMod64_shiftLeft a _)

theorem isSext32_aluSllw_reg : isSext32 (a.toNat * 2 ^ (b.toNat % 32)) (aluSllw a b) := by
  rw [aluSllw, shiftAmount_reg]
  exact isSext32_of_isMod64 (isMod64_shiftLeft a _)

theorem isSext32_srlw (n : Nat) : isSext32 (a.toNat % 2 ^ 32 / 2 ^ n) (sext (low32 a >>> n)) := by
  have h := isSext32_sext_of_toNat (low32 a >>> n)
  rw [toNat_shiftRight, toNat_low32] at h
  exact_mod_cast h

theorem isSext32_aluSrlw_zext : isSext32 (a.toNat % 2 ^ 32 / 2 ^ shamt.toNat) (aluSrlw a (zext shamt)) := by
  rw [aluSrlw, shiftAmount_zext shamt le_rfl (by decide)]
  exact isSext32_srlw a _

theorem isSext32_aluSrlw_reg : isSext32 (a.toNat % 2 ^ 32 / 2 ^ (b.toNat % 32)) (aluSrlw a b) := by
  rw [aluSrlw, shiftAmount_reg]
  exact isSext32_srlw a _

theorem toInt_aluSraw_zext :
    (aluSraw a (zext shamt)).toInt = ((a.toNat : Int).bmod (2 ^ 32)).fdiv (2 ^ shamt.toNat) := by
  rw [aluSraw, shiftAmount_zext shamt le_rfl (by decide), toInt_sraw]

theorem toInt_aluSraw_reg :
    (aluSraw a b).toInt = ((a.toNat : Int).bmod (2 ^ 32)).fdiv (2 ^ (b.toNat % 32)) := by
  rw [aluSraw, shiftAmount_reg, toInt_sraw]
  rfl

end WordShiftResults

/-! ## Products -/

theorem toInt_bounds (a : Word) : -2 ^ 63 ≤ a.toInt ∧ a.toInt < 2 ^ 63 := ⟨BitVec.le_toInt a, BitVec.toInt_lt⟩

theorem toInt_ofInt_of_small {n : Int} (h1 : -2 ^ 63 ≤ n) (h2 : n < 2 ^ 63) : (BitVec.ofInt 64 n).toInt = n := by
  rw [BitVec.toInt_ofInt, Int.bmod_def]
  omega

theorem isMod64_mulLow (a b : Word) : isMod64 (a.toNat * b.toNat) (mulLow a b) := by
  simp [isMod64, mulLow]

/-- The high half of a product of a signed and any 64-bit factor is a signed 64-bit number. -/
theorem mulHigh_bounds {x y : Int} (hx1 : -2 ^ 63 ≤ x) (hx2 : x < 2 ^ 63) (hy1 : -2 ^ 63 ≤ y) (hy2 : y < 2 ^ 64) :
    -2 ^ 63 ≤ (x * y).fdiv (2 ^ 64) ∧ (x * y).fdiv (2 ^ 64) < 2 ^ 63 := by
  have h1 : -2 ^ 127 ≤ x * y := by nlinarith
  have h2 : x * y < 2 ^ 127 := by nlinarith
  rw [Int.fdiv_eq_ediv_of_nonneg _ (by decide)]
  omega

theorem toInt_mulHighSS (a b : Word) : (mulHighSS a b).toInt = (a.toInt * b.toInt).fdiv (2 ^ 64) := by
  obtain ⟨ha1, ha2⟩ := toInt_bounds a
  obtain ⟨hb1, hb2⟩ := toInt_bounds b
  obtain ⟨h1, h2⟩ := mulHigh_bounds ha1 ha2 hb1 (by omega)
  exact toInt_ofInt_of_small h1 h2

theorem toInt_mulHighSU (a b : Word) : (mulHighSU a b).toInt = (a.toInt * (b.toNat : Int)).fdiv (2 ^ 64) := by
  obtain ⟨ha1, ha2⟩ := toInt_bounds a
  have hb := b.isLt
  obtain ⟨h1, h2⟩ := mulHigh_bounds ha1 ha2 (show -2 ^ 63 ≤ (b.toNat : Int) by omega) (by omega)
  exact toInt_ofInt_of_small h1 h2

theorem toNat_mulHighUU (a b : Word) : (mulHighUU a b).toNat = a.toNat * b.toNat / 2 ^ 64 := by
  rw [mulHighUU, BitVec.toNat_ofNat]
  refine Nat.mod_eq_of_lt (Nat.div_lt_of_lt_mul ?_)
  exact Nat.mul_lt_mul'' a.isLt b.isLt

/-! ## Quotients and remainders -/

theorem eq_zero_iff_toInt {w : Nat} (b : BitVec w) : b = 0 ↔ b.toInt = 0 :=
  ⟨by rintro rfl; simp, fun h => BitVec.eq_of_toInt_eq (by simpa using h)⟩

/-- A quotient rounded toward zero is no larger than its dividend, and is its negation only by -1. -/
theorem tdiv_bounds {x y m : Int} (h1 : -m ≤ x) (h2 : x < m) (h : ¬ (x = -m ∧ y = -1)) :
    -m ≤ x.tdiv y ∧ x.tdiv y < m := by
  by_cases hy : y = -1
  · subst hy
    rw [Int.tdiv_neg, Int.tdiv_one]
    omega
  · by_cases hone : y = 1
    · subst hone
      rw [Int.tdiv_one]
      omega
    · have habs := Int.natAbs_tdiv x y
      have hhalf : x.natAbs / y.natAbs ≤ x.natAbs / 2 := by
        by_cases h0 : y = 0
        · simp [h0]
        · exact Nat.div_le_div_left (by omega) (by decide)
      have hq : (x.tdiv y).natAbs ≤ x.natAbs / 2 := habs.trans_le hhalf
      omega

/-- A remainder rounded toward zero is smaller than its divisor. -/
theorem tmod_bounds {x y m : Int} (hy : y ≠ 0) (h1 : -m ≤ y) (h2 : y < m) : -m ≤ x.tmod y ∧ x.tmod y < m := by
  have habs := Int.natAbs_tmod x y
  have hlt : x.natAbs % y.natAbs < y.natAbs := Nat.mod_lt _ (by omega)
  omega

theorem sub_tdiv_mul (x y : Int) : x - x.tdiv y * y = x.tmod y := by rw [Int.tmod_def, mul_comm]

theorem toInt_divS (a b : Word) :
    (divS a b).toInt =
      if b.toInt = 0 then -1 else if a.toInt = -2 ^ 63 ∧ b.toInt = -1 then -2 ^ 63 else a.toInt.tdiv b.toInt := by
  unfold divS
  simp only [eq_zero_iff_toInt]
  split_ifs with h0 ho
  · rfl
  · exact ho.1
  · obtain ⟨ha1, ha2⟩ := toInt_bounds a
    obtain ⟨h1, h2⟩ := tdiv_bounds ha1 ha2 ho
    exact toInt_ofInt_of_small h1 h2

theorem toNat_divU (a b : Word) : (divU a b).toNat = if b.toNat = 0 then 2 ^ 64 - 1 else a.toNat / b.toNat := by
  have hz : b = 0 ↔ b.toNat = 0 := ⟨by rintro rfl; rfl, fun h => BitVec.eq_of_toNat_eq h⟩
  unfold divU
  simp only [hz]
  split_ifs with h0
  · rfl
  · exact Nat.mod_eq_of_lt ((Nat.div_le_self _ _).trans_lt a.isLt)

theorem toInt_remS (a b : Word) :
    (remS a b).toInt =
      if b.toInt = 0 then a.toInt else if a.toInt = -2 ^ 63 ∧ b.toInt = -1 then 0 else a.toInt.tmod b.toInt := by
  unfold remS
  simp only [eq_zero_iff_toInt]
  split_ifs with h0 ho
  · rfl
  · rfl
  · obtain ⟨hb1, hb2⟩ := toInt_bounds b
    obtain ⟨h1, h2⟩ := tmod_bounds (x := a.toInt) h0 hb1 hb2
    rw [sub_tdiv_mul]
    exact toInt_ofInt_of_small h1 h2

theorem toNat_remU (a b : Word) : (remU a b).toNat = if b.toNat = 0 then a.toNat else a.toNat % b.toNat := by
  have hz : b = 0 ↔ b.toNat = 0 := ⟨by rintro rfl; rfl, fun h => BitVec.eq_of_toNat_eq h⟩
  unfold remU
  simp only [hz]
  split_ifs with h0
  · rfl
  · exact Nat.mod_eq_of_lt ((Nat.mod_le _ _).trans_lt a.isLt)

section WordQuotients

variable (a b : Word)

/-- The sign-extended 32-bit result of an integer in range. -/
theorem toInt_sext_ofInt32 {n : Int} (h1 : -2 ^ 31 ≤ n) (h2 : n < 2 ^ 31) : (sext (BitVec.ofInt 32 n)).toInt = n := by
  rw [toInt_sext _ (by decide), BitVec.toInt_ofInt, Int.bmod_def]
  omega

theorem toInt_divWS :
    (divWS a b).toInt =
      if (b.toNat : Int).bmod (2 ^ 32) = 0 then -1
      else if (a.toNat : Int).bmod (2 ^ 32) = -2 ^ 31 ∧ (b.toNat : Int).bmod (2 ^ 32) = -1 then -2 ^ 31
      else ((a.toNat : Int).bmod (2 ^ 32)).tdiv ((b.toNat : Int).bmod (2 ^ 32)) := by
  simp only [divWS, toInt_low32]
  split_ifs with h0 ho
  · rfl
  · rfl
  · obtain ⟨ha1, ha2⟩ := bmod_bounds a.toNat
    obtain ⟨h1, h2⟩ := tdiv_bounds ha1 ha2 ho
    exact toInt_sext_ofInt32 h1 h2

theorem toInt_remWS :
    (remWS a b).toInt =
      if (b.toNat : Int).bmod (2 ^ 32) = 0 then (a.toNat : Int).bmod (2 ^ 32)
      else if (a.toNat : Int).bmod (2 ^ 32) = -2 ^ 31 ∧ (b.toNat : Int).bmod (2 ^ 32) = -1 then 0
      else ((a.toNat : Int).bmod (2 ^ 32)).tmod ((b.toNat : Int).bmod (2 ^ 32)) := by
  simp only [remWS, toInt_low32]
  split_ifs with h0 ho
  · exact toInt_sext_low32 a
  · rfl
  · obtain ⟨hb1, hb2⟩ := bmod_bounds b.toNat
    obtain ⟨h1, h2⟩ := tmod_bounds (x := (a.toNat : Int).bmod (2 ^ 32)) h0 hb1 hb2
    rw [sub_tdiv_mul]
    exact toInt_sext_ofInt32 h1 h2

/-- The sign-extended 32-bit result of a natural number. -/
theorem toInt_sext_ofNat32 {n : Nat} (h : n < 2 ^ 32) : (sext (BitVec.ofNat 32 n)).toInt = (n : Int).bmod (2 ^ 32) := by
  have hs := isSext32_sext_of_toNat (BitVec.ofNat 32 n)
  rwa [BitVec.toNat_ofNat, Nat.mod_eq_of_lt h] at hs

theorem toInt_divWU :
    (divWU a b).toInt =
      if b.toNat % 2 ^ 32 = 0 then -1
      else ((a.toNat % 2 ^ 32 / (b.toNat % 2 ^ 32) : Nat) : Int).bmod (2 ^ 32) := by
  simp only [divWU, toNat_low32]
  split_ifs with h0
  · rfl
  · exact toInt_sext_ofNat32 ((Nat.div_le_self _ _).trans_lt (Nat.mod_lt _ (by decide)))

theorem toInt_remWU :
    (remWU a b).toInt =
      if b.toNat % 2 ^ 32 = 0 then (a.toNat : Int).bmod (2 ^ 32)
      else ((a.toNat % 2 ^ 32 % (b.toNat % 2 ^ 32) : Nat) : Int).bmod (2 ^ 32) := by
  simp only [remWU, toNat_low32]
  split_ifs with h0
  · exact toInt_sext_low32 a
  · exact toInt_sext_ofNat32 ((Nat.mod_le _ _).trans_lt (Nat.mod_lt _ (by decide)))

end WordQuotients

/-! ## Jump targets and branch conditions -/

/-- Clearing bit 0 rounds down to an even number. -/
theorem toNat_clearBit0 (x : Word) : (x &&& ~~~1#64).toNat = x.toNat / 2 * 2 := by
  have h : x &&& ~~~1#64 = (x >>> 1) <<< 1 := by
    apply BitVec.eq_of_getLsbD_eq
    intro i hi
    rw [BitVec.getLsbD_and, BitVec.getLsbD_not, BitVec.getLsbD_shiftLeft, BitVec.getLsbD_ushiftRight]
    cases i with
    | zero => simp
    | succ i => simp [hi, Nat.add_comm]
  rw [h]
  simp [BitVec.toNat_shiftLeft, BitVec.toNat_ushiftRight]
  have := x.isLt
  omega

theorem toNat_jalrTarget (a : Word) (imm : BitVec 12) :
    ((jalrTarget a (sext imm)).toNat : Int) = (a.toNat + imm.toInt) % 2 ^ 64 / 2 * 2 := by
  have h : ((a + sext imm).toNat : Int) = (a.toNat + imm.toInt) % 2 ^ 64 := isMod64_add_sext a imm
  rw [jalrTarget, toNat_clearBit0, ← h]
  push_cast
  rfl

theorem toNat_jalrTarget_zero (a : Word) : (jalrTarget a 0).toNat = a.toNat / 2 * 2 := by
  rw [jalrTarget, toNat_clearBit0]
  simp

/-- Where a conditional branch goes. -/
theorem isMod64_branch {s : State} {w : Nat} {taken : Bool} {p : Prop} [Decidable p] {len : Len} (off : BitVec w)
    (h : taken = true ↔ p) :
    isMod64 (s.pc.toNat + if p then off.toInt else len.bytes) (if taken then s.pc + sext off else s.pcAfter len) := by
  simp only [h]
  split_ifs
  · exact isMod64_add_sext s.pc off
  · exact isMod64_pcAfter s len

end Sys2Proof.Machine

/-!
PROOF. The results and the frame of the computational, jump, branch and system instructions, 32-bit and compressed
(spec/43_integer_alu.md, 44_muldiv.md, 45_control_transfer.md, 47_system.md, 48_compressed.md): each is its form
(Laws/Forms.lean) over the value its function gives.
-/

namespace Sys2Proof.Machine

theorem State.next2_pcAfter (s : State) : s.next2 (s.pcAfter .two) := isMod64_pcAfter s .two

/-- A register write with pc + 4 behind it. -/
theorem writesReg_four {s : State} {rd : Reg} {v : Word} {value : Word → Prop} (hv : value v) :
    WritesReg s (finishReg rd v .four s) rd value s.next4 := finishReg_writesReg hv s.next4_pcAfter

/-- A register write with pc + 2 behind it. -/
theorem writesReg_two {s : State} {rd : Reg} {v : Word} {value : Word → Prop} (hv : value v) :
    WritesReg s (finishReg rd v .two s) rd value s.next2 := finishReg_writesReg hv s.next2_pcAfter

/-! ## 32-bit instructions -/

/-- Settles O9. -/
theorem addAndCompareResults : Obligations.AddAndCompareResults := by
  intro s rd rs1 rs2 imm imm20
  refine ⟨writesReg_four (toInt_immU imm20), writesReg_four (isMod64_add_immU s.pc imm20),
    writesReg_four (isMod64_add_sext _ imm), writesReg_four ?_, writesReg_four (toNat_aluSltu_sext _ imm),
    writesReg_four (isMod64_add _ _), writesReg_four (isMod64_sub _ _), writesReg_four (toNat_aluSlt _ _),
    writesReg_four (toNat_aluSltu _ _)⟩
  rw [toNat_aluSlt, toInt_sext imm (by decide)]

/-- Settles O10: an operation bit by bit on the sign-extended immediate. -/
theorem logicResults : Obligations.LogicResults := by
  intro s rd rs1 rs2 imm
  refine ⟨writesReg_four fun k hk => ?_, writesReg_four fun k hk => ?_, writesReg_four fun k hk => ?_,
    writesReg_four fun k _ => BitVec.getLsbD_xor, writesReg_four fun k _ => BitVec.getLsbD_or,
    writesReg_four fun k _ => BitVec.getLsbD_and⟩
  · rw [aluXor, BitVec.getLsbD_xor, getLsbD_sext imm hk]
  · rw [aluOr, BitVec.getLsbD_or, getLsbD_sext imm hk]
  · rw [aluAnd, BitVec.getLsbD_and, getLsbD_sext imm hk]

/-- Settles O11. -/
theorem shiftResults : Obligations.ShiftResults := by
  intro s rd rs1 rs2 shamt
  refine ⟨writesReg_four ?_, writesReg_four ?_, writesReg_four ?_, writesReg_four ?_, writesReg_four ?_,
    writesReg_four ?_⟩
  · rw [aluSll_zext]; exact isMod64_shiftLeft _ _
  · rw [aluSrl_zext]; exact toNat_shiftRight _ _
  · rw [aluSra_zext]; exact toInt_sshiftRight _ _
  · rw [aluSll_reg]; exact isMod64_shiftLeft _ _
  · rw [aluSrl_reg]; exact toNat_shiftRight _ _
  · rw [aluSra_reg]; exact toInt_sshiftRight _ _

/-- Settles O12. -/
theorem wordFormResults : Obligations.WordFormResults := by
  intro s rd rs1 rs2 imm shamt
  exact ⟨writesReg_four (isSext32_of_isMod64 (isMod64_add_sext _ imm)),
    writesReg_four (isSext32_of_isMod64 (isMod64_add _ _)), writesReg_four (isSext32_of_isMod64 (isMod64_sub _ _)),
    writesReg_four (isSext32_aluSllw_zext _ shamt), writesReg_four (isSext32_aluSrlw_zext _ shamt),
    writesReg_four (toInt_aluSraw_zext _ shamt), writesReg_four (isSext32_aluSllw_reg _ _),
    writesReg_four (isSext32_aluSrlw_reg _ _), writesReg_four (toInt_aluSraw_reg _ _)⟩

/-- Settles O13. -/
theorem multiplyResults : Obligations.MultiplyResults := fun _ _ _ _ =>
  ⟨writesReg_four (isMod64_mulLow _ _), writesReg_four (toInt_mulHighSS _ _), writesReg_four (toInt_mulHighSU _ _),
    writesReg_four (toNat_mulHighUU _ _), writesReg_four (isSext32_of_isMod64 (isMod64_mulLow _ _))⟩

/-- Settles O14. -/
theorem divideResults : Obligations.DivideResults := fun _ _ _ _ =>
  ⟨writesReg_four (toInt_divS _ _), writesReg_four (toNat_divU _ _), writesReg_four (toInt_remS _ _),
    writesReg_four (toNat_remU _ _)⟩

/-- Settles O15. -/
theorem divideWordResults : Obligations.DivideWordResults := fun _ _ _ _ =>
  ⟨writesReg_four (toInt_divWS _ _), writesReg_four (toInt_divWU _ _), writesReg_four (toInt_remWS _ _),
    writesReg_four (toInt_remWU _ _)⟩

/-- Settles O16. -/
theorem jumpResults : Obligations.JumpResults := fun s _ _ offset imm =>
  ⟨finishJump_writesReg (isMod64_pcAfter s .four) (isMod64_add_sext s.pc offset),
    finishJump_writesReg (isMod64_pcAfter s .four) (toNat_jalrTarget _ imm)⟩

/-- Settles O17. -/
theorem branchResults : Obligations.BranchResults := fun _ _ _ offset =>
  ⟨finishBranch_onlyMovesPc (isMod64_branch offset (by simp [condEq])),
    finishBranch_onlyMovesPc (isMod64_branch offset (by simp [condNe])),
    finishBranch_onlyMovesPc (isMod64_branch offset (by simp [condLt])),
    finishBranch_onlyMovesPc (isMod64_branch offset (by simp [condGe])),
    finishBranch_onlyMovesPc (isMod64_branch offset (by simp [condLtu])),
    finishBranch_onlyMovesPc (isMod64_branch offset (by simp [condGeu]))⟩

/-- Settles O22. -/
theorem fencesOnlyGoOn : Obligations.FencesOnlyGoOn := fun s _ _ _ _ _ _ =>
  ⟨finishNone_onlyMovesPc s.next4_pcAfter, finishNone_onlyMovesPc s.next4_pcAfter⟩

/-- Settles O23. -/
theorem breakHaltsTheRun : Obligations.BreakHaltsTheRun := fun s => ⟨finishBreak_endsRun s, finishBreak_endsRun s⟩

/-! ## Compressed instructions -/

theorem toNat_primed (r : CReg) : (primed r).toNat = 8 + r.toNat := by
  have h := r.isLt
  rw [primed, BitVec.toNat_append, ← Nat.shiftLeft_add_eq_or_of_lt h]
  rfl

/-- A jump with no link only moves pc. -/
theorem finishJump_zero_onlyMovesPc {s : State} {target : Word} {len : Len} {next : Word → Prop} (hn : next target) :
    OnlyMovesPc s (finishJump 0 target len s) next :=
  ⟨_, rfl, hn, fun r => by simp, fun _ => rfl, rfl, rfl, ⟨rfl, rfl, rfl, rfl, rfl, rfl, rfl, rfl, rfl, rfl, rfl, rfl⟩⟩

/-- A computation whose destination is x0 only moves pc. -/
theorem finishReg_zero_onlyMovesPc {s : State} {v : Word} {len : Len} {next : Word → Prop}
    (hn : next (s.pcAfter len)) : OnlyMovesPc s (finishReg 0 v len s) next :=
  ⟨_, rfl, hn, fun r => by simp, fun _ => rfl, rfl, rfl, ⟨rfl, rfl, rfl, rfl, rfl, rfl, rfl, rfl, rfl, rfl, rfl, rfl⟩⟩

theorem aluAdd_zero (v : Word) : aluAdd 0 v = v := BitVec.zero_add v

/-- Settles O26. -/
theorem compressedImmediateResults : Obligations.CompressedImmediateResults := by
  intro s rd rdp imm u nz
  refine ⟨toNat_primed rdp, writesReg_two (isMod64_add_zext _ u (by decide)),
    finishReg_zero_onlyMovesPc s.next2_pcAfter, writesReg_two (isMod64_add_sext _ imm),
    writesReg_two (isSext32_of_isMod64 (isMod64_add_sext _ imm)), writesReg_two ?_,
    writesReg_two (isMod64_add_sext _ u), writesReg_two (toInt_sext nz (by decide)), writesReg_two fun k hk => ?_⟩
  · rw [State.reg_zero, aluAdd_zero, toInt_sext imm (by decide)]
  · rw [aluAnd, BitVec.getLsbD_and, getLsbD_sext imm hk]

/-- Settles O27. -/
theorem compressedRegisterResults : Obligations.CompressedRegisterResults := by
  intro s rd rs2 rdp rs2p shamt a b
  refine ⟨writesReg_two ?_, writesReg_two ?_, writesReg_two ?_, writesReg_two (isMod64_sub a b),
    writesReg_two fun k _ => BitVec.getLsbD_xor, writesReg_two fun k _ => BitVec.getLsbD_or,
    writesReg_two fun k _ => BitVec.getLsbD_and, writesReg_two (isSext32_of_isMod64 (isMod64_sub a b)),
    writesReg_two (isSext32_of_isMod64 (isMod64_add a b)), writesReg_two ?_, writesReg_two (isMod64_add _ _)⟩
  · rw [aluSrl_zext]; exact toNat_shiftRight _ _
  · rw [aluSra_zext]; exact toInt_sshiftRight _ _
  · rw [aluSll_zext]; exact isMod64_shiftLeft _ _
  · rw [State.reg_zero, aluAdd_zero]

/-- Settles O29. -/
theorem compressedControlResults : Obligations.CompressedControlResults := fun s _ _ off12 off9 =>
  ⟨finishJump_zero_onlyMovesPc (isMod64_add_sext s.pc off12),
    finishBranch_onlyMovesPc (isMod64_branch off9 (by rw [condEq, s.reg_zero, beq_iff_eq])),
    finishBranch_onlyMovesPc (isMod64_branch off9 (by rw [condNe, s.reg_zero, bne_iff_ne])),
    finishJump_zero_onlyMovesPc (toNat_jalrTarget_zero _),
    finishJump_writesReg (isMod64_pcAfter s .two) (toNat_jalrTarget_zero _)⟩

end Sys2Proof.Machine

/-!
PROOF. Loads and stores, 32-bit and compressed, in range and out of range (spec/46_loads_stores.md R187 to R197,
spec/48_compressed.md R206 to R209, R229, R230, R236, R237), and ECALL with any host (spec/60_exceptions.md R251).
-/

namespace Sys2Proof.Machine

/-! ## The loaded value (R89) -/

theorem toInt_extendLoad {n : Nat} (h : n ≤ 8) (v : Nat) :
    (extendLoad n true v).toInt = (v : Int).bmod (2 ^ (8 * n)) := by
  rw [extendLoad, if_pos rfl, toInt_sext _ (by omega), BitVec.toInt_eq_toNat_bmod, BitVec.toNat_ofNat]
  exact_mod_cast Int.emod_bmod (v : Int) (2 ^ (8 * n))

theorem toNat_extendLoad {n v : Nat} (h : n ≤ 8) (hv : v < 2 ^ (8 * n)) : (extendLoad n false v).toNat = v := by
  rw [extendLoad, if_neg Bool.false_ne_true, toNat_zext _ (by omega), BitVec.toNat_ofNat, Nat.mod_eq_of_lt hv]

theorem toNat_extendLoad_eight {v : Nat} (hv : v < 2 ^ 64) : (extendLoad 8 true v).toNat = v := by
  rw [extendLoad, if_pos rfl, sext, BitVec.signExtend_eq, BitVec.toNat_ofNat, Nat.mod_eq_of_lt hv]

theorem State.memRead_lt (s : State) (a : Word) (n : Nat) : s.memRead a n < 2 ^ (8 * n) := by
  rw [pow_mul]
  exact Memory.readLE_lt s.mem a.toNat n

section Access

variable {s : State} {a : Word} {n : Nat} {rd : Reg} {len : Len} {next : Word → Prop}

theorem writesReg_of_load {sg : Bool} {value : Word → Prop} (h : InRegion s a n)
    (hv : value (extendLoad n sg (s.memRead a n))) (hn : next (s.pcAfter len)) :
    WritesReg s (finishLoad n sg rd a len s) rd value next := by
  rw [finishLoad_in_range ((s.inRange_iff_inRegion a n).2 h)]
  exact finishReg_writesReg hv hn

/-- A sign-extending load, in range. -/
theorem finishLoad_signed (h : InRegion s a n) (hn8 : n ≤ 8) (hn : next (s.pcAfter len)) :
    WritesReg s (finishLoad n true rd a len s) rd
      (fun v => v.toInt = (littleEndianSum s.mem a.toNat n : Int).bmod (2 ^ (8 * n))) next :=
  writesReg_of_load h (by rw [toInt_extendLoad hn8, s.memRead_eq_littleEndianSum]) hn

/-- A zero-extending load, in range. -/
theorem finishLoad_unsigned (h : InRegion s a n) (hn8 : n ≤ 8) (hn : next (s.pcAfter len)) :
    WritesReg s (finishLoad n false rd a len s) rd (fun v => v.toNat = littleEndianSum s.mem a.toNat n) next :=
  writesReg_of_load h (by rw [toNat_extendLoad hn8 (s.memRead_lt a n), s.memRead_eq_littleEndianSum]) hn

/-- A load of a doubleword, in range. -/
theorem finishLoad_double (h : InRegion s a 8) (hn : next (s.pcAfter len)) :
    WritesReg s (finishLoad 8 true rd a len s) rd (fun v => v.toNat = littleEndianSum s.mem a.toNat 8) next :=
  writesReg_of_load h (by rw [toNat_extendLoad_eight (s.memRead_lt a 8), s.memRead_eq_littleEndianSum]) hn

theorem finishStore_in_range {v : Word} (hw : s.mem.wf) (h : InRegion s a n) (hn : next (s.pcAfter len)) :
    StoresBytes s (finishStore n v a len s) a n v next :=
  finishStore_storesBytes hw ((s.inRange_iff_inRegion a n).2 h) hn

theorem State.inRange_eq_false (h : ¬ InRegion s a n) : s.inRange a n = false := by
  simpa using mt (s.inRange_iff_inRegion a n).1 h

theorem finishLoad_faults {sg : Bool} (h : ¬ InRegion s a n) :
    EndsRun s (finishLoad n sg rd a len s) (.error (.memoryFault s.pc a)) :=
  finishLoad_out_of_range (State.inRange_eq_false h)

theorem finishStore_faults {v : Word} (h : ¬ InRegion s a n) :
    EndsRun s (finishStore n v a len s) (.error (.memoryFault s.pc a)) :=
  finishStore_out_of_range (State.inRange_eq_false h)

end Access

/-- Settles O18, by access size and extension. -/
theorem loadResults : Obligations.LoadResults := by
  intro s rd rs1 imm a
  refine ⟨isMod64_add_sext _ imm, fun h => ⟨?_, ?_⟩, fun h => ⟨?_, ?_⟩, fun h => ⟨?_, ?_⟩, fun h => ?_⟩
  · exact finishLoad_signed h (by decide) s.next4_pcAfter
  · exact finishLoad_unsigned h (by decide) s.next4_pcAfter
  · exact finishLoad_signed h (by decide) s.next4_pcAfter
  · exact finishLoad_unsigned h (by decide) s.next4_pcAfter
  · exact finishLoad_signed h (by decide) s.next4_pcAfter
  · exact finishLoad_unsigned h (by decide) s.next4_pcAfter
  · exact finishLoad_double h s.next4_pcAfter

/-- Settles O19. -/
theorem storeResults : Obligations.StoreResults := fun s _ _ imm hw =>
  ⟨isMod64_add_sext _ imm, fun h => finishStore_in_range hw h s.next4_pcAfter,
    fun h => finishStore_in_range hw h s.next4_pcAfter, fun h => finishStore_in_range hw h s.next4_pcAfter,
    fun h => finishStore_in_range hw h s.next4_pcAfter⟩

/-- Settles O20. -/
theorem outOfRangeAccessFaults : Obligations.OutOfRangeAccessFaults := fun _ _ _ _ =>
  ⟨fun h => ⟨finishLoad_faults h, finishLoad_faults h, finishStore_faults h⟩,
    fun h => ⟨finishLoad_faults h, finishLoad_faults h, finishStore_faults h⟩,
    fun h => ⟨finishLoad_faults h, finishLoad_faults h, finishStore_faults h⟩,
    fun h => ⟨finishLoad_faults h, finishStore_faults h⟩⟩

/-- Settles O28: the forms of the 32-bit loads and stores, with pc + 2 behind them. -/
theorem compressedLoadStoreResults : Obligations.CompressedLoadStoreResults := by
  intro s rd rs2 rdp rs1p u7 u8 u9 hw w d ws ds
  have word : ∀ {rd : Reg} {a : Word}, InRegion s a 4 → WritesReg s (finishLoad 4 true rd a .two s) rd
      (fun v => v.toInt = (littleEndianSum s.mem a.toNat 4 : Int).bmod (2 ^ 32)) s.next2 := fun h =>
    finishLoad_signed h (by decide) s.next2_pcAfter
  exact ⟨⟨isMod64_add_zext _ u7 (by decide), isMod64_add_zext _ u8 (by decide), isMod64_add_zext _ u8 (by decide),
      isMod64_add_zext _ u9 (by decide)⟩,
    fun h => ⟨word h, finishStore_in_range hw h s.next2_pcAfter⟩, fun h => ⟨finishLoad_faults h, finishStore_faults h⟩,
    fun h => ⟨finishLoad_double h s.next2_pcAfter, finishStore_in_range hw h s.next2_pcAfter⟩,
    fun h => ⟨finishLoad_faults h, finishStore_faults h⟩,
    fun h => ⟨word h, finishStore_in_range hw h s.next2_pcAfter⟩, fun h => ⟨finishLoad_faults h, finishStore_faults h⟩,
    fun h => ⟨finishLoad_double h s.next2_pcAfter, finishStore_in_range hw h s.next2_pcAfter⟩,
    fun h => ⟨finishLoad_faults h, finishStore_faults h⟩⟩

/-! ## The writes of a host's answer, and of a launch (R251, R261) -/

/-- A register file, read as `State.reg` reads it. -/
def readRegs (regs : Vector Word 32) (r : Reg) : Word := if r = 0 then 0 else regs[r.toNat]'r.isLt

theorem State.reg_eq_readRegs (s : State) (r : Reg) : s.reg r = readRegs s.regs r := rfl

theorem readRegs_writeRegs (regs : Vector Word 32) (rd : Reg) (v : Word) (r : Reg) :
    readRegs (writeRegs regs rd v) r = if r = rd ∧ r ≠ 0 then v else readRegs regs r :=
  State.reg_of_writeRegs (s := { State.reset with regs := regs })
    (t := { State.reset with regs := writeRegs regs rd v }) rfl r

theorem readRegs_applyRegWrites_of_not_mem {l : List (Reg × Word)} {r : Reg} (h : ∀ p ∈ l, p.1 ≠ r)
    (regs : Vector Word 32) : readRegs (applyRegWrites regs l) r = readRegs regs r := by
  induction l generalizing regs with
  | nil => rfl
  | cons p rest ih =>
    rw [applyRegWrites, ih fun q hq => h q (List.mem_cons_of_mem _ hq), readRegs_writeRegs,
      if_neg fun hc => h p List.mem_cons_self hc.1.symm]

theorem applyRegWrites_append (pre post : List (Reg × Word)) (regs : Vector Word 32) :
    applyRegWrites regs (pre ++ post) = applyRegWrites (applyRegWrites regs pre) post := by
  induction pre generalizing regs with
  | nil => rfl
  | cons p rest ih => exact ih _

/-- The last write to a register other than x0 stands. -/
theorem readRegs_applyRegWrites_last {pre post : List (Reg × Word)} {r : Reg} (v : Word) (h0 : r ≠ 0)
    (h : ∀ p ∈ post, p.1 ≠ r) (regs : Vector Word 32) :
    readRegs (applyRegWrites regs (pre ++ (r, v) :: post)) r = v := by
  rw [applyRegWrites_append, applyRegWrites, readRegs_applyRegWrites_of_not_mem h, readRegs_writeRegs,
    if_pos ⟨rfl, h0⟩]

theorem applyMemWrites_append (p : Platform) (pre post : List Host.Cell) (m : Memory) :
    applyMemWrites p m (pre ++ post) = applyMemWrites p (applyMemWrites p m pre) post := by
  induction pre generalizing m with
  | nil => rfl
  | cons c rest ih => exact ih _

/-- A byte no write names, or outside the region, stays. -/
theorem byte_applyMemWrites_of_not_written {p : Platform} {l : List Host.Cell} {a : Nat} (m : Memory)
    (h : (∀ c ∈ l, c.1 ≠ a) ∨ a < p.memBase ∨ p.memBase + p.memSize ≤ a) :
    (applyMemWrites p m l).byte a = m.byte a := by
  by_contra hne
  obtain ⟨h1, h2, v, hv⟩ := byte_applyMemWrites hne
  rcases h with h | h | h
  · exact h _ hv rfl
  · omega
  · omega

/-- The last write to a byte of the region stands. -/
theorem byte_applyMemWrites_last {p : Platform} {pre post : List Host.Cell} {a : Nat} {m : Memory} (v : Byte)
    (hm : m.wf) (h1 : p.memBase ≤ a) (h2 : a < p.memBase + p.memSize) (h : ∀ c ∈ post, c.1 ≠ a) :
    (applyMemWrites p m (pre ++ (a, v) :: post)).byte a = v := by
  have hin : Platform.inRange p a 1 = true := (Platform.inRange_iff p a 1).2 ⟨h1, h2⟩
  rw [applyMemWrites_append, applyMemWrites, byte_applyMemWrites_of_not_written _ (.inl h), if_pos hin,
    Memory.byte_setByte (applyMemWrites_wf hm pre), if_pos rfl]

theorem State.applyReply_sameMachine (s : State) (r : HostReply) : SameMachine s (s.applyReply r) :=
  ⟨rfl, rfl, rfl, rfl, rfl, rfl, rfl, rfl, rfl, rfl, rfl, rfl⟩

/-- The four verdicts of a host, with a plain case name for `.continue`, which is a keyword. -/
theorem verdictCases {motive : HostVerdict → Prop} (goesOn : motive .continue) (exit : motive .exit)
    (fault : ∀ addr, motive (.fault addr)) (refuse : motive .refuse) : ∀ v, motive v
  | .continue => goesOn
  | .exit => exit
  | .fault addr => fault addr
  | .refuse => refuse

theorem exec_ecall_of_continue {s : State} (hv : s.hostReply.verdict = .continue) :
    exec .ecall s = .next ((s.applyReply s.hostReply).setPc (s.pcAfter .four)) := by
  rw [exec_ecall, finishCall_of_continue hv]

theorem exec_ecall_of_not_continue {s : State} (hv : s.hostReply.verdict ≠ .continue) :
    exec .ecall s = .next (s.hostCall s.pc) := by
  rw [exec_ecall, finishCall_of_not_continue hv]

/-- Settles O25: the verdicts one by one, and the laws of an answer's writes. -/
theorem ecallWithAnyHost : Obligations.EcallWithAnyHost := by
  intro s
  refine ⟨?_, fun r hw => ⟨rfl, State.reg_zero _, fun x hx => ?_, fun pre x v post hl h0 hx => ?_, fun a ha => ?_,
    fun pre a v post hl h1 h2 ha => ?_⟩⟩
  · cases hv : s.hostReply.verdict using verdictCases with
    | goesOn =>
      exact ⟨_, exec_ecall_of_continue hv, ⟨rfl, rfl, rfl, rfl, rfl, rfl, rfl, rfl, rfl, rfl, rfl, rfl⟩,
        s.next4_pcAfter, rfl, rfl, rfl, rfl⟩
    | exit =>
      refine ⟨_, exec_ecall_of_not_continue (by simp [hv]), s.hostCall_sameMachine s.pc, ?_⟩
      rw [State.hostCall_exit hv]
      exact ⟨rfl, rfl, rfl, rfl, rfl⟩
    | fault addr =>
      refine ⟨_, exec_ecall_of_not_continue (by simp [hv]), s.hostCall_sameMachine s.pc, ?_⟩
      rw [State.hostCall_fault hv]
      exact endsRun_setStatus s _
    | refuse =>
      refine ⟨_, exec_ecall_of_not_continue (by simp [hv]), s.hostCall_sameMachine s.pc, ?_⟩
      rw [State.hostCall_refuse hv]
      exact endsRun_setStatus s _
  · exact readRegs_applyRegWrites_of_not_mem hx s.regs
  · have h := readRegs_applyRegWrites_last (pre := pre) v h0 hx s.regs
    rwa [← hl] at h
  · exact byte_applyMemWrites_of_not_written s.mem ha
  · have h := byte_applyMemWrites_last (pre := pre) v hw h1 h2 ha
    rwa [← hl] at h

end Sys2Proof.Machine

/-!
PROOF. The construction of a run: the checks of spec/60_exceptions.md R240 in their order, and the state a launch makes
(spec/70_reset_and_hazards.md R261), which meets the invariant.
-/

namespace Sys2Proof.Machine

/-! ## The checks in order -/

/-- The field of the first check that fails, as R240 reads a list of checks. -/
def firstFailing (checks : List (Bool × ConfigField)) : Option ConfigField :=
  (checks.find? fun q => !q.1).map Prod.snd

@[simp] theorem firstFailing_nil : firstFailing [] = none := rfl

@[simp] theorem firstFailing_cons (b : Bool) (f : ConfigField) (rest : List (Bool × ConfigField)) :
    firstFailing ((b, f) :: rest) = if b = true then firstFailing rest else some f := by
  cases b <;> simp [firstFailing]

/-- The fetch window of R75, with the ratio as the rational it stands for. -/
theorem four_le_floor_iff {w n d : Nat} (hd : 0 < d) :
    4 ≤ ⌊(4 * (w : ℚ) * ((n : ℚ) / (d : ℚ)))⌋ ↔ 4 ≤ 4 * w * n / d := by
  have hdq : (0 : ℚ) < d := by exact_mod_cast hd
  rw [Int.le_floor, Nat.le_div_iff_mul_le hd, ← mul_div_assoc, le_div_iff₀ hdq]
  norm_cast

theorem ratio_check_iff (c : Config) :
    (0 < c.ratioNum ∧ 0 < c.ratioDen ∧ 4 ≤ ⌊(4 * (c.width : ℚ) * ((c.ratioNum : ℚ) / (c.ratioDen : ℚ)))⌋) ↔
      0 < c.ratioNum ∧ 0 < c.ratioDen ∧ 4 ≤ Config.fetchBytes c := by
  refine and_congr_right fun _ => and_congr_right fun hd => ?_
  rw [four_le_floor_iff hd, Config.fetchBytes]

theorem predictor_check_iff (k : PredictorKind) :
    (k = .static ∨ k = .bimodal ∨ k = .gshare) ↔ k ≠ .unsupported := by
  cases k <;> simp

theorem configError_eq (c : Config) (p : Platform) :
    configError c p = firstFailing
      [(decide (1 ≤ c.width ∧ c.width ≤ 32), .w),
       (decide (0 < c.ratioNum ∧ 0 < c.ratioDen ∧
          4 ≤ ⌊(4 * (c.width : ℚ) * ((c.ratioNum : ℚ) / (c.ratioDen : ℚ)))⌋), .r),
       (decide (c.predictor = .static ∨ c.predictor = .bimodal ∨ c.predictor = .gshare), .predictor),
       (decide (1 ≤ c.counterBits ∧ c.counterBits ≤ 8), .n),
       (decide (1 ≤ c.tableBits ∧ c.tableBits ≤ 16), .tb),
       (decide (c.initCounter ≤ 2 ^ c.counterBits - 1), .initCounter),
       (decide (c.dbf = false), .dbf),
       (decide (1 ≤ c.rasDepth ∧ c.rasDepth ≤ 64), .rasd),
       (decide (1 ≤ p.memSize), .memSize),
       (decide (p.memBase + p.memSize ≤ 2 ^ 64), .memSize),
       (decide (p.entry.toNat % 2 = 0), .entry)] := by
  have hcounter : c.initCounter ≤ 2 ^ c.counterBits - 1 ↔ c.initCounter < 2 ^ c.counterBits := by
    have hpos : 0 < 2 ^ c.counterBits := Nat.two_pow_pos _
    omega
  simp only [configError, firstFailing_cons, firstFailing_nil, decide_eq_true_eq, ratio_check_iff, predictor_check_iff,
    hcounter, ite_not, ne_eq, ite_and, ← Bool.not_eq_true]

theorem launch_of_error {c : Config} {p : Platform} {f : ConfigField} (h : configError c p = some f) (e : Engine)
    (given : List (Reg × Word)) (image : List Host.Cell) : launch e c p given image = .error f := by
  simp [launch, h]

theorem launch_of_valid {c : Config} {p : Platform} (h : configError c p = none) (e : Engine)
    (given : List (Reg × Word)) (image : List Host.Cell) :
    launch e c p given image = .ok (State.initial e c p (launchRegs given) (launchImage p image)) := by
  simp [launch, h]

theorem step_of_configError {s : State} {f : ConfigField} (h : configError s.cfg s.plat = some f) :
    step s = .fault (.configurationError f) := by
  simp [step, h]

/-- Settles O32. -/
theorem configurationChecksInOrder : Obligations.ConfigurationChecksInOrder := by
  intro c p checks
  refine ⟨configError_eq c p, fun f hf => ⟨launch_of_error hf, ?_⟩, 
    fun h e given image => ⟨_, launch_of_valid h e given image⟩⟩
  rintro s rfl rfl
  exact step_of_configError hf

/-! ## The launched state -/

/-- Everything a launch that succeeds does. -/
theorem launch_cases {e : Engine} {c : Config} {p : Platform} {given : List (Reg × Word)} {image : List Host.Cell}
    {s : State} (h : launch e c p given image = .ok s) :
    configError c p = none ∧ s = State.initial e c p (launchRegs given) (launchImage p image) := by
  unfold launch at h
  split at h
  · cases h
  · next hc => exact ⟨hc, (Except.ok.inj h).symm⟩

theorem readRegs_replicate (r : Reg) : readRegs (Vector.replicate 32 0) r = 0 := by simp [readRegs]

theorem allBubbles_bubbles (n : Nat) : AllBubbles (bubbles n) := fun _ h => List.eq_of_mem_replicate h

theorem hasContent_empty (n : Nat) : (Latch.empty n).hasContent = false := by
  simp [Latch.hasContent, Latch.empty, bubbles]

/-- Settles O31. -/
theorem launchMakesTheResetState : Obligations.LaunchMakesTheResetState := by
  intro e c p given image s h
  obtain ⟨-, rfl⟩ := launch_cases h
  refine ⟨State.reg_zero _, fun r hr => ?_, fun pre r v post hl h0 hr => ?_, rfl, fun a ha => ?_,
    fun pre a v post hl h1 h2 ha => ?_, rfl, rfl, fun l hl => ?_, fun i => rfl,
    rfl, rfl, rfl, rfl, rfl, rfl, rfl⟩
  · exact (readRegs_applyRegWrites_of_not_mem hr _).trans (readRegs_replicate r)
  · subst hl
    exact readRegs_applyRegWrites_last v h0 hr _
  · exact byte_applyMemWrites_of_not_written [] (.inl ha)
  · subst hl
    exact byte_applyMemWrites_last v sparseWf_nil h1 h2 ha
  · have hempty : l = Latch.empty c.width := by simpa [State.initial] using hl
    subst hempty
    exact ⟨List.length_replicate .., allBubbles_bubbles _, hasContent_empty _, rfl⟩

/-! ## The launched state meets the invariant -/

theorem entry_even_of_valid {c : Config} {p : Platform} (h : configError c p = none) : Even64 p.entry := by
  by_contra hodd
  unfold configError at h
  split_ifs at h
  exact hodd (by simp_all [Even64])

theorem lanesPacked_bubbles (n : Nat) : lanesPacked (bubbles n) = true := by
  cases n with
  | zero => rfl
  | succ n => simp [bubbles, List.replicate_succ, lanesPacked]

theorem serialLast_bubbles (n : Nat) : serialLast (bubbles n) = true := by
  induction n with
  | zero => rfl
  | succ n ih => exact ih

theorem not_mem_bubbles (n : Nat) (u : MicroOp) : some u ∉ bubbles n := fun h => by
  cases allBubbles_bubbles n _ h

/-- A latch of `W` bubbles is in order. -/
theorem Latch.ok_bubbles (c : Config) (stalled : Bool) : Latch.Ok c ⟨bubbles c.width, stalled⟩ where
  width := List.length_replicate ..
  packed := lanesPacked_bubbles _
  ops u hu := absurd hu (not_mem_bubbles _ u)

theorem State.initial_inv {e : Engine} {c : Config} {p : Platform} {regs : Vector Word 32} {mem : Memory}
    (hc : configError c p = none) (hregs : regs[0] = 0) (hwf : mem.wf)
    (hregion : ∀ q ∈ mem, p.memBase ≤ q.1 ∧ q.1 < p.memBase + p.memSize) :
    (State.initial e c p regs mem).Inv where
  memory := hwf
  region := hregion
  zero := hregs
  pc := entry_even_of_valid hc
  ifid := Latch.ok_bubbles c false
  idex := Latch.ok_bubbles c false
  exmem := Latch.ok_bubbles c false
  memwb := Latch.ok_bubbles c false
  stalledIfid := by simp [State.initial, Latch.empty]
  stalledOthers := ⟨rfl, rfl, rfl⟩
  serial := ⟨serialLast_bubbles _, serialLast_bubbles _, serialLast_bubbles _⟩
  table := sparseWf_nil
  counters := by simp [State.initial]
  ghr := Nat.two_pow_pos _
  rasDepth := Nat.zero_le _
  rasOff _ := rfl
  rasEven := by simp [State.initial]
  retired := le_rfl
  mispredicted := le_rfl
  predicted := le_rfl
  budget := Nat.zero_le _

theorem inv_of_launch {e : Engine} {c : Config} {p : Platform} {given : List (Reg × Word)} {image : List Host.Cell}
    {s : State} (h : launch e c p given image = .ok s) : s.Inv := by
  obtain ⟨hc, rfl⟩ := launch_cases h
  refine State.initial_inv hc ?_ (launchImage_wf p image) fun q hq => ?_
  · rw [launchRegs, applyRegWrites_slot_zero]
    rfl
  · exact (mem_applyMemWrites hq).resolve_right (by simp)

/-- Settles O34. -/
theorem resetMeetsTheInvariant : Obligations.ResetMeetsTheInvariant :=
  State.initial_inv (by decide) rfl sparseWf_nil (by simp)

end Sys2Proof.Machine

/-!
PROOF. EBREAK, FENCE.I and ECALL at Writeback (spec/40_pipeline_cycle.md R96 to R98), after the older lanes.
-/

namespace Sys2Proof.Machine

/-! ## Lanes behind which Writeback does not go on -/

theorem retireLanes_ended {s t : State} {u : MicroOp} (h : s.retireOp u = (.done, t)) (rest : Lanes) :
    retireLanes (some u :: rest) s = t := by
  simp only [retireLanes, h]

theorem State.commitReg_of_not_regWrite {u : MicroOp} {d : Decoded} (hd : u.dec = some d) (h : d.regWrite = false)
    (s : State) : s.commitReg u = s := by
  simp [State.commitReg, hd, h]

@[simp] theorem State.countRetired_hostReply (s : State) (u : MicroOp) : (s.countRetired u).hostReply = s.hostReply :=
  rfl

section SystemOps

variable {s : State} {u : MicroOp} {d : Decoded} (hf : u.fault = none) (hd : u.dec = some d)
  (hw : d.regWrite = false)

include hf hd hw

theorem retireLanes_ebreak (ho : d.op = .ebreak) (rest : Lanes) :
    retireLanes (some u :: rest) s = (s.countRetired u).setStatus (.halted .ebreak) := by
  rw [retireLanes_ended (State.retireOp_ebreak hf hd ho), State.commitReg_of_not_regWrite hd hw]

theorem retireLanes_fenceI (ho : d.op = .fenceI) (rest : Lanes) :
    retireLanes (some u :: rest) s = (s.countRetired u).serialFlush u := by
  rw [retireLanes_ended (State.retireOp_fenceI hf hd ho), State.commitReg_of_not_regWrite hd hw]

theorem retireLanes_ecall (ho : d.op = .ecall) (rest : Lanes) :
    retireLanes (some u :: rest) s =
      if s.hostReply.verdict = .continue then ((s.countRetired u).hostCall u.pc).serialFlush u
      else (s.countRetired u).hostCall u.pc := by
  rw [retireLanes_ended (State.retireOp_ecall hf hd ho), State.commitReg_of_not_regWrite hd hw,
    State.countRetired_hostReply]

end SystemOps

/-- Settles O43: behind the plain lanes the stage is `retireLanes` of the rest, whose first lane ends it. -/
theorem systemActionsAtWriteback : Obligations.SystemActionsAtWriteback := by
  intro s pre rest u d hpre hf hd hw p t counted flushed
  have ht : t = retireLanes (some u :: rest) p := retireLanes_append hpre _ s
  refine ⟨fun ho => ?ebreak, fun ho => ?fenceI, fun ho => ?ecall⟩
  case ebreak => exact ht.trans (retireLanes_ebreak hf hd hw ho rest)
  case fenceI =>
    rw [ht, retireLanes_fenceI hf hd hw ho rest]
    simp only [flushed, ← Len.word_eq_ofNat]
    rfl
  case ecall =>
    have same : (p.countRetired u).hostReply.verdict = p.hostReply.verdict := rfl
    rw [ht, retireLanes_ecall hf hd hw ho rest]
    cases hv : p.hostReply.verdict using verdictCases with
    | goesOn =>
      rw [if_pos rfl, State.hostCall_continue (same.trans hv)]
      simp only [flushed, ← Len.word_eq_ofNat]
      rfl
    | exit =>
      rw [if_neg nofun, State.hostCall_exit (same.trans hv)]
      rfl
    | fault addr =>
      rw [if_neg nofun, State.hostCall_fault (same.trans hv)]
      rfl
    | refuse =>
      rw [if_neg nofun, State.hostCall_refuse (same.trans hv)]
      rfl

end Sys2Proof.Machine

/-!
PROOF. The Memory stage, lane by lane (spec/40_pipeline_cycle.md R89 to R91): loads, pending MemoryFaults, copies, and
stores with the store-snoop flush.
-/

namespace Sys2Proof.Machine

/-! ## One lane of `memoryLanes`, case by case -/

section Lane

variable {s : State} {u : MicroOp} {d : Decoded} {bus : MemoryBus}

@[simp] theorem memoryLanes_bubble (rest : Lanes) (s : State) (bus : MemoryBus) :
    memoryLanes (none :: rest) s bus = (none :: (memoryLanes rest s bus).1, (memoryLanes rest s bus).2) := rfl

@[simp] theorem MicroOp.clean_of_none (h : u.fault = none) : u.clean = true := u.clean_iff.2 h

theorem MicroOp.clean_eq_false (h : u.fault ≠ none) : u.clean = false :=
  Bool.eq_false_iff.2 (mt u.clean_iff.1 h)

@[simp] theorem MicroOp.memBytes_of_dec (hd : u.dec = some d) : u.memBytes = d.memBytes := by
  simp [MicroOp.memBytes, hd]

/-- A micro-op that makes no access: it has a pending error, or its record is neither load nor store. -/
theorem memoryLanes_copied (h : u.fault = none → u.flag Decoded.isLoad = false ∧ u.flag Decoded.isStore = false)
    (rest : Lanes) (s : State) :
    memoryLanes (some u :: rest) s bus = (some u :: (memoryLanes rest s bus).1, (memoryLanes rest s bus).2) := by
  by_cases hf : u.fault = none
  · obtain ⟨hl, hs⟩ := h hf
    simp [memoryLanes, hl, hs]
  · simp [memoryLanes, MicroOp.clean_eq_false hf]

theorem memoryLanes_load (hf : u.fault = none) (hl : u.flag Decoded.isLoad = true)
    (hr : s.inRange u.result u.memBytes bus = true) (rest : Lanes) :
    memoryLanes (some u :: rest) s bus =
      (some (s.loadOp u bus) :: (memoryLanes rest s bus).1, (memoryLanes rest s bus).2) := by
  simp [memoryLanes, MicroOp.clean_of_none hf, hl, hr]

theorem memoryLanes_fault (hf : u.fault = none)
    (ha : u.flag Decoded.isLoad = true ∨ u.flag Decoded.isStore = true)
    (hr : s.inRange u.result u.memBytes bus = false) (rest : Lanes) :
    memoryLanes (some u :: rest) s bus = (some (faultOp u) :: bubbles rest.length, s) := by
  rcases ha with ha | ha <;> simp [memoryLanes, MicroOp.clean_of_none hf, ha, hr]

/-- A store whose bytes no younger instruction in flight holds. -/
theorem memoryLanes_store (hf : u.fault = none) (hl : u.flag Decoded.isLoad = false)
    (hs : u.flag Decoded.isStore = true) (hr : s.inRange u.result u.memBytes bus = true) {rest : Lanes}
    (hno : snoopHit u.result.toNat u.memBytes (rest ++ s.idex.lanes ++ s.ifid.lanes) = false) :
    memoryLanes (some u :: rest) s bus =
      (some u :: (memoryLanes rest (s.memWrite u.result u.memBytes u.store bus) bus).1,
        (memoryLanes rest (s.memWrite u.result u.memBytes u.store bus) bus).2) := by
  rw [memoryLanes, hno]
  simp [MicroOp.clean_of_none hf, hl, hs, hr]

/-- A store into the bytes of a younger instruction in flight. -/
theorem memoryLanes_snoop (hf : u.fault = none) (hl : u.flag Decoded.isLoad = false)
    (hs : u.flag Decoded.isStore = true) (hr : s.inRange u.result u.memBytes bus = true) {rest : Lanes}
    (hhit : snoopHit u.result.toNat u.memBytes (rest ++ s.idex.lanes ++ s.ifid.lanes) = true) :
    memoryLanes (some u :: rest) s bus =
      (some u :: bubbles rest.length, (s.memWrite u.result u.memBytes u.store bus).snoopFlush u) := by
  rw [memoryLanes, hhit]
  simp [MicroOp.clean_of_none hf, hl, hs, hr]

end Lane

theorem State.memoryStage_memwb (s : State) (bus : MemoryBus) :
    (s.memoryStage bus).memwb = ⟨(memoryLanes s.exmem.lanes s bus).1, s.memwb.isStalled⟩ := by
  obtain ⟨-, -, -, -, -, -, -, -, hwb, -⟩ := memoryLanes_keeps s.exmem.lanes s bus
  simp [State.memoryStage, Latch.withLanes, hwb]

theorem State.memoryStage_exmem (s : State) (bus : MemoryBus) : (s.memoryStage bus).exmem = s.exmem := by
  obtain ⟨-, -, -, -, -, -, -, hex, -⟩ := memoryLanes_keeps s.exmem.lanes s bus
  exact hex

/-! ## Loads, faults and copies -/

/-- Settles O44: one equation of `memoryLanes` per clause. -/
theorem memoryStageLanes : Obligations.MemoryStageLanes := by
  refine ⟨fun s => ⟨s.memoryStage_memwb _, s.memoryStage_exmem _⟩, fun s rest => ⟨rfl, fun u hu => ?_,
    fun u d hf hd => ⟨fun hl hn hin => ?load, fun ha hout => ?fault, fun hl hs => ?copy⟩⟩⟩
  · exact memoryLanes_copied (fun hf => by simp [MicroOp.flag_of_none, hu.resolve_left (not_not_intro hf)]) rest s
  case load =>
    have hr : s.inRange u.result u.memBytes = true := by
      rwa [MicroOp.memBytes_of_dec hd, State.inRange_iff_inRegion]
    have hle : d.memBytes ≤ 8 := by
      simp only [List.mem_cons, List.not_mem_nil, or_false] at hn
      omega
    refine ⟨_, memoryLanes_load hf (by simpa [u.flag_of_some _ d hd] using hl) hr rest, fun hsg => ?_, fun hsg => ?_⟩
    · rw [MicroOp.memBytes_of_dec hd, u.flag_of_some _ d hd, hsg, toInt_extendLoad hle, s.memRead_eq_littleEndianSum]
    · rw [MicroOp.memBytes_of_dec hd, u.flag_of_some _ d hd, hsg, toNat_extendLoad hle (s.memRead_lt _ _),
        s.memRead_eq_littleEndianSum]
  case fault =>
    refine memoryLanes_fault hf (by simpa [u.flag_of_some _ d hd] using ha) ?_ rest
    rw [MicroOp.memBytes_of_dec hd]
    exact State.inRange_eq_false hout
  case copy => exact memoryLanes_copied (fun _ => by simp [u.flag_of_some _ d hd, hl, hs]) rest s

/-! ## Stores -/

/-- Some valid micro-op of the lanes has a byte in common with the `n` bytes at `ea`. -/
theorem snoopHit_iff (ea n : Nat) (l : Lanes) (hn : 0 < n) :
    snoopHit ea n l = true ↔
      ∃ v k, some v ∈ l ∧ ea ≤ k ∧ k < ea + n ∧ v.pc.toNat ≤ k ∧ k < v.pc.toNat + v.len.bytes := by
  have hbytes (v : MicroOp) : 0 < v.len.bytes := by cases v.len <;> decide
  have hov (v : MicroOp) : v.overlaps ea n = true ↔
      ∃ k, ea ≤ k ∧ k < ea + n ∧ v.pc.toNat ≤ k ∧ k < v.pc.toNat + v.len.bytes := by
    have := hbytes v
    simp only [MicroOp.overlaps, Bool.and_eq_true, decide_eq_true_eq]
    exact ⟨fun ⟨h1, h2⟩ => ⟨max ea v.pc.toNat, by omega⟩, fun ⟨k, h1, h2, h3, h4⟩ => by omega⟩
  simp only [snoopHit, List.any_eq_true, Option.any_eq_true, hov]
  exact ⟨fun ⟨slot, hm, v, hs, k, hk⟩ => ⟨v, k, hs ▸ hm, hk⟩, fun ⟨v, k, hm, hk⟩ => ⟨_, hm, v, rfl, k, hk⟩⟩

/-- Settles O45: the snoop compares with the younger lanes of EXMEM, with IDEX and with IFID. -/
theorem storeSnoopFlush : Obligations.StoreSnoopFlush := by
  intro s rest u d hf hd hs hl hn hin w hit
  have hpos : 0 < d.memBytes := by
    simp only [List.mem_cons, List.not_mem_nil, or_false] at hn
    omega
  have hr : s.inRange u.result u.memBytes = true := by
    rwa [MicroOp.memBytes_of_dec hd, State.inRange_iff_inRegion]
  have hflags : u.flag Decoded.isLoad = false ∧ u.flag Decoded.isStore = true := by
    simp [u.flag_of_some _ d hd, hl, hs]
  obtain ⟨hload, hstore⟩ := hflags
  have hsnoop : snoopHit u.result.toNat u.memBytes (rest ++ s.idex.lanes ++ s.ifid.lanes) = true ↔ hit := by
    rw [MicroOp.memBytes_of_dec hd, snoopHit_iff _ _ _ hpos]
    simp only [List.mem_append, or_assoc, hit]
  refine ⟨fun h => ?_, fun h => ?_⟩
  · rw [memoryLanes_snoop hf hload hstore hr (hsnoop.2 h), MicroOp.memBytes_of_dec hd, ← Len.word_eq_ofNat]
    rfl
  · rw [memoryLanes_store hf hload hstore hr (by simpa using mt hsnoop.1 h), MicroOp.memBytes_of_dec hd]

end Sys2Proof.Machine

/-!
PROOF. Forwarding and the load-use stall (spec/41_hazards_and_flush.md R100, R105, R107), and what the lanes on the
correct path do as they resolve (R113, R115).
-/

namespace Sys2Proof.Machine

/-! ## Producers and forwarding -/

theorem MicroOp.produces_iff (q : MicroOp) (r : Reg) :
    q.produces r = true ↔ q.fault = none ∧ r ≠ 0 ∧ ∃ d, q.dec = some d ∧ d.regWrite = true ∧ d.rd = r := by
  cases hd : q.dec <;> simp [MicroOp.produces, q.clean_iff, MicroOp.flag, hd, and_assoc]

/-- The youngest producer of a list of lanes, given as the last one that produces the register. -/
theorem youngest_of_last {pre post : Lanes} {q : MicroOp} {r : Reg} (hq : q.produces r = true)
    (hpost : ∀ p, some p ∈ post → p.produces r = false) :
    ∃ j, youngest r (pre ++ some q :: post) = some (j, q) := by
  have skip : ∀ i, youngestFrom r i post = none := fun i => by
    rcases youngestFrom_cases r i post with ⟨h, -⟩ | ⟨_, p, _, rfl, hp, -⟩
    · exact h
    · simp [hpost p (by simp)] at hp
  have here : ∀ i, youngestFrom r i (some q :: post) = some (i, q) := fun i => by
    simp [youngestFrom, skip, hq]
  have behind : ∀ i, ∃ j, youngestFrom r i (pre ++ some q :: post) = some (j, q) := by
    induction pre with
    | nil => exact fun i => ⟨i, here i⟩
    | cons slot l ih =>
      intro i
      obtain ⟨j, hj⟩ := ih (i + 1)
      exact ⟨j, by simp [youngestFrom, hj]⟩
  exact behind 0

theorem youngest_of_none {l : Lanes} {r : Reg} (h : ∀ p, some p ∈ l → p.produces r = false) :
    youngest r l = none := by
  rcases youngestFrom_cases r 0 l with ⟨hn, -⟩ | ⟨_, q, _, rfl, hq, -⟩
  · exact hn
  · simp [h q (by simp)] at hq

section Forward

variable {s : State} {r : Reg} {pre post : Lanes} {q : MicroOp}

theorem State.forward_of_exmem (hl : s.exmem.lanes = pre ++ some q :: post) (hq : q.produces r = true)
    (hpost : ∀ p, some p ∈ post → p.produces r = false) :
    s.forward r = if q.flag Decoded.isLoad = true then none else some (.val q.result) := by
  obtain ⟨j, hj⟩ := youngest_of_last (pre := pre) hq hpost
  simp [State.forward, hl, hj]

theorem State.forward_of_memwb (hex : ∀ p, some p ∈ s.exmem.lanes → p.produces r = false)
    (hl : s.memwb.lanes = pre ++ some q :: post) (hq : q.produces r = true)
    (hpost : ∀ p, some p ∈ post → p.produces r = false) : s.forward r = some (.val q.result) := by
  obtain ⟨j, hj⟩ := youngest_of_last (pre := pre) hq hpost
  simp [State.forward, youngest_of_none hex, hl, hj]

theorem State.forward_of_register (hex : ∀ p, some p ∈ s.exmem.lanes → p.produces r = false)
    (hwb : ∀ p, some p ∈ s.memwb.lanes → p.produces r = false) : s.forward r = some (.val (s.reg r)) := by
  simp [State.forward, youngest_of_none hex, youngest_of_none hwb]

end Forward

/-- Settles O47. -/
theorem forwardingIsYoungestFirst : Obligations.ForwardingIsYoungestFirst :=
  ⟨MicroOp.produces_iff, fun _ _ => ⟨fun _ _ _ hl hq hpost => State.forward_of_exmem hl hq hpost,
    fun hex => ⟨fun _ _ _ hl hq hpost => State.forward_of_memwb hex hl hq hpost, State.forward_of_register hex⟩⟩⟩

/-! ## The load-use stall -/

theorem State.resolveLane_eq_none {s : State} {p : Planned}
    (h : MustWait s p.op.readsA p.laneA ∨ MustWait s p.op.readsB p.laneB) : s.resolveLane p = none := by
  rcases h with h | h
  · simp [State.resolveLane, (s.resolve_eq_none_iff _ _).2 h]
  · unfold State.resolveLane
    rw [(s.resolve_eq_none_iff _ _).2 h]
    cases s.resolve p.op.readsA p.laneA <;> rfl

theorem State.resolveAll_eq_none {s : State} {plan : List Planned} {p : Planned} (hp : p ∈ plan)
    (h : MustWait s p.op.readsA p.laneA ∨ MustWait s p.op.readsB p.laneB) : s.resolveAll plan = none := by
  induction plan with
  | nil => cases hp
  | cons q rest ih =>
    rcases List.mem_cons.1 hp with rfl | hp
    · simp [State.resolveAll, State.resolveLane_eq_none h]
    · unfold State.resolveAll
      rw [ih hp]
      cases s.resolveLane q <;> rfl

theorem State.issue_stalls (s : State) (ops : List MicroOp) : (s.issue ops).metrics.stalls = s.metrics.stalls := by
  unfold State.issue
  split <;> rfl

/-- Settles O48: with a lane that must wait Decode stalls, and the Fetch of the cycle sees `Hold`; with none it
issues. -/
theorem loadUseStallHoldsTheBundle : Obligations.LoadUseStallHoldsTheBundle := by
  intro s plan waits
  refine ⟨fun ⟨p, hp, hwait⟩ => ?_, fun hno => ?_⟩
  · have hstall : s.decodeStage = s.stallDecode := by
      have hnone : s.resolveAll (planLanes s.cfg [] false s.ifid.lanes) = none := State.resolveAll_eq_none hp hwait
      unfold State.decodeStage
      rw [hnone]
    rw [hstall]
    rfl
  · obtain ⟨us, hus, -⟩ := State.resolveAll_of_no_wait (s := s) (plan := plan) fun p hp =>
      not_or.1 fun h => hno ⟨p, hp, h⟩
    have hissue : s.decodeStage = s.issue us := by
      unfold State.decodeStage
      rw [hus]
    rw [hissue]
    exact ⟨s.issue_stalls us, s.issue_fetchMode us⟩

/-! ## What the lanes on the correct path resolve (R113) -/

/-- `s` with the branch counts raised by the branches of `l`, all of them and those predicted rightly. -/
def State.countBranches (s : State) (l : Lanes) : State :=
  s.count fun m =>
    { m with condBranches := m.condBranches + branchesIn l, dirCorrect := m.dirCorrect + rightBranchesIn l }

@[simp] theorem State.train_cfg (s : State) (i : Option Nat) (taken : Bool) : (s.train i taken).cfg = s.cfg := by
  cases i <;> rfl

theorem State.train_count (s : State) (f : Metrics → Metrics) (i : Option Nat) (taken : Bool) :
    (s.count f).train i taken = (s.train i taken).count f := by
  cases i <;> rfl

theorem State.updateRas_count (s : State) (f : Metrics → Metrics) (u : MicroOp) :
    (s.count f).updateRas u = (s.updateRas u).count f := by
  unfold State.updateRas
  split_ifs <;> rfl

/-- Resolving does not read the metrics. -/
theorem resolvedBy_count (l : Lanes) (s : State) (f : Metrics → Metrics) :
    resolvedBy l (s.count f) = (resolvedBy l s).count f := by
  induction l generalizing s with
  | nil => rfl
  | cons slot rest ih =>
    cases slot with
    | none => exact ih s
    | some u =>
      simp only [resolvedBy, State.train_count]
      split_ifs <;> simp_all [State.updateRas_count]

theorem resolvedBy_append (l l' : Lanes) (s : State) : resolvedBy (l ++ l') s = resolvedBy l' (resolvedBy l s) := by
  induction l generalizing s with
  | nil => rfl
  | cons slot rest ih =>
    cases slot with
    | none => exact ih s
    | some u =>
      simp only [List.cons_append, resolvedBy]
      split_ifs <;> exact ih _

/-- Resolving one fault-free micro-op is what `resolvedBy` says, and its counts. -/
theorem State.resolveControl_eq {u : MicroOp} (hf : u.fault = none) (s : State) :
    s.resolveControl u = (resolvedBy [some u] s).countBranches [some u] := by
  cases hb : u.flag Decoded.isBranch with
  | false =>
    simp only [State.resolveControl, State.resolveBranch, resolvedBy, hb, hf, if_true, Bool.false_eq_true, if_false]
    split_ifs <;> simp [State.countBranches, branchesIn, rightBranchesIn, hf, hb, State.count]
  | true =>
    simp only [State.resolveControl, State.resolveBranch, resolvedBy, hb, hf, if_true, State.train_count,
      State.updateRas_count, State.train_cfg]
    have hcount : (fun m : Metrics =>
        { m with
          condBranches := m.condBranches + 1
          dirCorrect := if u.dirPred = u.taken then m.dirCorrect + 1 else m.dirCorrect }) =
        fun m =>
          { m with
            condBranches := m.condBranches + branchesIn [some u]
            dirCorrect := m.dirCorrect + rightBranchesIn [some u] } := by
      funext m
      by_cases hd : u.dirPred = u.taken <;> simp [branchesIn, rightBranchesIn, hf, hb, hd]
    rw [hcount]
    split_ifs <;> rfl

theorem State.countBranches_append (s : State) (l l' : Lanes) :
    (s.countBranches l).countBranches l' = s.countBranches (l ++ l') := by
  simp [State.countBranches, State.count, branchesIn, rightBranchesIn, Nat.add_assoc]

theorem resolvedBy_countBranches (s : State) (l l' : Lanes) :
    resolvedBy l' (s.countBranches l) = (resolvedBy l' s).countBranches l := resolvedBy_count l' s _

/-- The lanes on the correct path stay, and the ControlHazardUnit goes on behind them from the state that they have
resolved and been counted in. -/
theorem hazardLanes_append_eq {pre : Lanes} (h : OnCorrectPath pre) (rest : Lanes) (s : State) :
    hazardLanes (pre ++ rest) s =
      (pre ++ (hazardLanes rest ((resolvedBy pre s).countBranches pre)).1,
        (hazardLanes rest ((resolvedBy pre s).countBranches pre)).2) := by
  induction pre generalizing s with
  | nil => rfl
  | cons slot l ih =>
    cases slot with
    | none =>
      have hc : (resolvedBy (none :: l) s).countBranches (none :: l) = (resolvedBy l s).countBranches l := by
        simp [State.countBranches, branchesIn, rightBranchesIn, resolvedBy]
      rw [hc, List.cons_append, hazardLanes, ih h.tail]
      rfl
    | some u =>
      by_cases hf : u.fault = none
      · have hmatch : u.actualPc = u.followedPc := (h u List.mem_cons_self).resolve_left (not_not_intro hf)
        have hc : (resolvedBy (some u :: l) s).countBranches (some u :: l) =
            (resolvedBy l (s.resolveControl u)).countBranches l := by
          rw [State.resolveControl_eq hf, resolvedBy_countBranches, State.countBranches_append, ← resolvedBy_append]
          rfl
        rw [hc, List.cons_append, hazardLanes_of_match hf hmatch, ih h.tail]
        rfl
      · have hc : (resolvedBy (some u :: l) s).countBranches (some u :: l) = (resolvedBy l s).countBranches l := by
          simp [State.countBranches, branchesIn, rightBranchesIn, resolvedBy, hf]
        rw [hc, List.cons_append, hazardLanes_of_fault hf, ih h.tail]
        rfl

theorem State.controlHazard_of_correctPath {s : State} (h : OnCorrectPath s.exmem.lanes) :
    s.controlHazard = (resolvedBy s.exmem.lanes s).countBranches s.exmem.lanes := by
  have hl := hazardLanes_append_eq h [] s
  rw [List.append_nil] at hl
  obtain ⟨c, g, st, hr⟩ := resolvedBy_keeps s.exmem.lanes s
  rw [State.controlHazard, hl, hazardLanes, List.append_nil, hr]
  rfl

/-- The state a mismatch leaves, with what the lanes up to and including the mismatched one have resolved. -/
theorem State.controlHazard_of_mismatch_eq {s : State} {pre rest : Lanes} {u : MicroOp}
    (hl : s.exmem.lanes = pre ++ some u :: rest) (hpre : OnCorrectPath pre) (hf : u.fault = none)
    (h : u.actualPc ≠ u.followedPc) :
    s.controlHazard =
      { ((resolvedBy (pre ++ [some u]) s).countBranches (pre ++ [some u])).redirect u with
        exmem := s.exmem.withLanes (pre ++ some u :: bubbles rest.length) } := by
  have hres : ((resolvedBy pre s).countBranches pre).resolveControl u =
      (resolvedBy (pre ++ [some u]) s).countBranches (pre ++ [some u]) := by
    rw [State.resolveControl_eq hf, resolvedBy_countBranches, State.countBranches_append, ← resolvedBy_append]
  obtain ⟨c, g, st, hr⟩ := resolvedBy_keeps (pre ++ [some u]) s
  rw [State.controlHazard, hl, hazardLanes_append_eq hpre, hazardLanes_of_mismatch hf h, hres, hr]
  rfl

/-- Settles O52. -/
theorem correctPathResolution : Obligations.CorrectPathResolution := by
  refine fun s => ⟨fun h => ?_, fun pre rest u hl hpre hf hne => ?_⟩
  · intro p
    obtain ⟨c, g, st, hr⟩ := resolvedBy_keeps s.exmem.lanes s
    rw [State.controlHazard_of_correctPath h]
    simp only [p, hr]
    rfl
  · intro p t
    obtain ⟨c, g, st, hr⟩ := resolvedBy_keeps (pre ++ [some u]) s
    simp only [t, p, State.controlHazard_of_mismatch_eq hl hpre hf hne, hr]
    exact ⟨rfl, rfl, rfl, rfl⟩

end Sys2Proof.Machine

/-!
PROOF. Fetch (spec/40_pipeline_cycle.md R74 to R81): the micro-op of one fetched instruction, and the bundle, by
induction over the ways in which Fetch goes on or ends.
-/

namespace Sys2Proof.Machine

/-! ## The micro-op of one fetched instruction -/

/-- The micro-op Fetch makes of the instruction `word` of width `len` at `a`. -/
def State.fetchedOp (s : State) (a : Word) (len : Len) (word : InstWord) : MicroOp :=
  s.predictOp (newMicroOp a len word)

/-- Predicting fills the four prediction fields only. -/
theorem State.predictOp_keeps (s : State) (u : MicroOp) :
    ∃ t g d i, s.predictOp u = { u with predTaken := t, predTarget := g, dirPred := d, predIdx := i } := by
  rcases Option.eq_none_or_eq_some u.dec with hd | ⟨d, hd⟩
  · have hu : s.predictOp u = u := by simp only [State.predictOp, hd]
    exact ⟨u.predTaken, u.predTarget, u.dirPred, u.predIdx, hu⟩
  · rw [State.predictOp_of_dec hd]
    cases hb : d.isBranch with
    | true => exact ⟨_, _, _, _, State.predictDecoded_of_branch hb⟩
    | false =>
      rcases State.predictDecoded_of_not_branch (s := s) (u := u) hb with h | ⟨g, h⟩
      · exact ⟨u.predTaken, u.predTarget, u.dirPred, u.predIdx, h⟩
      · exact ⟨true, g, u.dirPred, u.predIdx, h⟩

/-- The micro-op before it is predicted: its record or its IllegalInstruction, and reset values. -/
theorem newMicroOp_cases (a : Word) (len : Len) (word : InstWord) :
    (∃ i, decode word len = .ok i ∧
      newMicroOp a len word = { blankOp a with len := len, word := word, dec := some (recordOf i) }) ∨
    ∃ e, decode word len = .error e ∧
      newMicroOp a len word =
        { blankOp a with len := len, word := word, fault := some (.illegalInstruction a word) } := by
  cases h : decode word len with
  | ok i => exact .inl ⟨i, rfl, newMicroOp_of_decode a h⟩
  | error e => exact .inr ⟨e, rfl, by simp [newMicroOp, decodeRecord_error h]⟩

/-- The micro-op holds the reset values in the fields that later stages fill (R77). -/
def MicroOp.Fresh (u : MicroOp) : Prop :=
  u.srcA = .val 0 ∧ u.srcB = .val 0 ∧ u.fusedPrev = false ∧ u.result = 0 ∧ u.store = 0 ∧ u.taken = false ∧
    u.target = 0

/-- What the Decoder gave: the record of an instruction, or the pending IllegalInstruction. -/
def MicroOp.DecodedAs (u : MicroOp) : Prop :=
  (∃ i, decode u.word u.len = .ok i ∧ u.dec = some (recordOf i) ∧ u.fault = none) ∨
    ∃ e, decode u.word u.len = .error e ∧ u.dec = none ∧ u.fault = some (.illegalInstruction u.pc u.word)

section FetchedOp

variable (s : State) (a : Word) (len : Len) (word : InstWord)

theorem State.fetchedOp_eq :
    ∃ t g d i, s.fetchedOp a len word =
      { newMicroOp a len word with predTaken := t, predTarget := g, dirPred := d, predIdx := i } :=
  s.predictOp_keeps _

/-- The fetched micro-op is that of its address, and what the Decoder gave for the word. -/
theorem State.fetchedOp_spec :
    (s.fetchedOp a len word).pc = a ∧ (s.fetchedOp a len word).len = len ∧ (s.fetchedOp a len word).word = word ∧
      (s.fetchedOp a len word).Fresh ∧ (s.fetchedOp a len word).DecodedAs := by
  obtain ⟨t, g, d, i, h⟩ := s.fetchedOp_eq a len word
  rw [h]
  rcases newMicroOp_cases a len word with ⟨j, hj, hn⟩ | ⟨e, he, hn⟩
  · rw [hn]
    exact ⟨rfl, rfl, rfl, ⟨rfl, rfl, rfl, rfl, rfl, rfl, rfl⟩, .inl ⟨j, hj, rfl, rfl⟩⟩
  · rw [hn]
    exact ⟨rfl, rfl, rfl, ⟨rfl, rfl, rfl, rfl, rfl, rfl, rfl⟩, .inr ⟨e, he, rfl, rfl⟩⟩

@[simp] theorem State.fetchedOp_pc : (s.fetchedOp a len word).pc = a := (s.fetchedOp_spec a len word).1
@[simp] theorem State.fetchedOp_len : (s.fetchedOp a len word).len = len := (s.fetchedOp_spec a len word).2.1
@[simp] theorem State.fetchedOp_word : (s.fetchedOp a len word).word = word := (s.fetchedOp_spec a len word).2.2.1

theorem State.fetchedOp_decodedAs : (s.fetchedOp a len word).DecodedAs := (s.fetchedOp_spec a len word).2.2.2.2

/-- The micro-op is no fault slot: its pending error, if it has one, is IllegalInstruction. -/
theorem MicroOp.DecodedAs.not_fetchFault {u : MicroOp} (h : u.DecodedAs) (b : Word) :
    u.fault ≠ some (.fetchFault b) := by
  rcases h with ⟨_, _, _, hf⟩ | ⟨_, _, _, hf⟩ <;> simp [hf]

/-- With `ebr` false Fetch never follows a prediction (R129). -/
theorem State.fetchedOp_not_predTaken (h : s.cfg.ebr = false) : (s.fetchedOp a len word).predTaken = false := by
  unfold State.fetchedOp
  rcases newMicroOp_cases a len word with ⟨i, hi, hn⟩ | ⟨e, he, hn⟩
  · rw [hn, State.predictOp_of_dec rfl]
    simp only [State.predictDecoded, h, Bool.false_and, Bool.false_eq_true, if_false]
    split_ifs <;> rfl
  · rw [hn]
    rfl

end FetchedOp

/-! ## The bundle -/

/-- The bundles Fetch can build with so many lanes left, from an address on with so many bytes of the window used, and
where it goes on: what ends a bundle, and how a micro-op is followed by the next. -/
inductive Bundle (s : State) (window : Nat) : Nat → Word → Nat → List MicroOp → Word → Prop
  /-- every lane is used -/
  | full (a used) : Bundle s window 0 a used [] a
  /-- the next instruction would pass the end of the window -/
  | windowEnd (n a used) (h2 : s.inRange a 2 = true)
      (hw : window < used + (lenOfParcel (BitVec.ofNat 16 (s.memRead a 2))).bytes) : Bundle s window (n + 1) a used [] a
  /-- a parcel is outside the memory region -/
  | fault (n a used) (hf : s.fetchWord a = none) (hw : s.inRange a 2 = true → used + 4 ≤ window) :
      Bundle s window (n + 1) a used [faultSlot a] a
  /-- Fetch follows a prediction -/
  | redirect (n a used len word) (hf : s.fetchWord a = some (len, word)) (hw : used + len.bytes ≤ window)
      (ht : (s.fetchedOp a len word).predTaken = true) :
      Bundle s window (n + 1) a used [s.fetchedOp a len word] (s.fetchedOp a len word).predTarget
  /-- Fetch goes on with the next address -/
  | next (n a used len word us b) (hf : s.fetchWord a = some (len, word)) (hw : used + len.bytes ≤ window)
      (ht : (s.fetchedOp a len word).predTaken = false) (rest : Bundle s window n (a + len.word) (used + len.bytes) us b) :
      Bundle s window (n + 1) a used (s.fetchedOp a len word :: us) b

theorem fetchLanes_bundle (s : State) (window n : Nat) (a : Word) (used : Nat) :
    Bundle s window n a used (fetchLanes s window n a used).1 (fetchLanes s window n a used).2 := by
  induction n generalizing a used with
  | zero => exact .full a used
  | succ n ih =>
    simp only [fetchLanes, Units.reference_bus]
    by_cases h2 : s.inRange a 2 = true
    · rw [if_pos h2]
      by_cases hw : window < used + (lenOfParcel (BitVec.ofNat 16 (s.memRead a 2))).bytes
      · rw [if_pos hw]
        exact .windowEnd n a used h2 hw
      · rw [if_neg hw]
        cases hf : s.fetchWord a with
        | none =>
          refine .fault n a used hf fun _ => ?_
          cases hl : lenOfParcel (BitVec.ofNat 16 (s.memRead a 2)) with
          | two => simp [State.fetchWord_of_two ((s.inRange_iff_inRegion a 2).1 h2) hl] at hf
          | four =>
            rw [hl] at hw
            exact Nat.le_of_not_lt hw
        | some f =>
          obtain ⟨len, word⟩ := f
          obtain ⟨-, hlen, -⟩ := State.fetchWord_eq_some hf
          rw [hlen] at hw
          have hle := Nat.le_of_not_lt hw
          by_cases ht : (s.predictOp (newMicroOp a len word)).predTaken = true
          · simp only [if_pos ht]
            exact .redirect n a used len word hf hle ht
          · simp only [if_neg ht]
            exact .next n a used len word _ _ hf hle (Bool.eq_false_iff.2 ht) (ih _ _)
    · rw [if_neg h2]
      exact .fault n a used (State.fetchWord_of_outside fun h => h2 ((s.inRange_iff_inRegion a 2).2 h))
        fun h => absurd h h2

/-- The micro-op is a fault slot: the fetch at its address was out of range (R78). -/
def MicroOp.IsFaultSlot (u : MicroOp) : Prop := u.fault = some (.fetchFault u.pc)

theorem faultSlot_isFaultSlot (a : Word) : (faultSlot a).IsFaultSlot := rfl

theorem State.fetchedOp_not_isFaultSlot (s : State) (a : Word) (len : Len) (word : InstWord) :
    ¬ (s.fetchedOp a len word).IsFaultSlot := (s.fetchedOp_decodedAs a len word).not_fetchFault _

/-- The bytes of instructions in a bundle: a fault slot has none. -/
def instructionBytes (us : List MicroOp) : Nat :=
  ((us.filter fun u => u.fault ≠ some (.fetchFault u.pc)).map fun u => u.len.bytes).sum

@[simp] theorem instructionBytes_nil : instructionBytes [] = 0 := rfl

@[simp] theorem instructionBytes_faultSlot (a : Word) : instructionBytes [faultSlot a] = 0 := by
  simp [instructionBytes, faultSlot, blankOp]

@[simp] theorem instructionBytes_fetchedOp (s : State) (a : Word) (len : Len) (word : InstWord) (us : List MicroOp) :
    instructionBytes (s.fetchedOp a len word :: us) = len.bytes + instructionBytes us := by
  have h : (s.fetchedOp a len word).fault ≠ some (.fetchFault a) :=
    (s.fetchedOp_decodedAs a len word).not_fetchFault a
  simp [instructionBytes, h]

/-- Where Fetch goes on after a micro-op. -/
def MicroOp.FetchGoesTo (u : MicroOp) (b : Word) : Prop :=
  b = if u.fault = some (.fetchFault u.pc) then u.pc
    else if u.predTaken then u.predTarget else u.pc + BitVec.ofNat 64 u.len.bytes

theorem MicroOp.fetchGoesTo_of_not_slot {u : MicroOp} (h : ¬ u.IsFaultSlot) (b : Word) :
    u.FetchGoesTo b ↔ b = u.followedPc := by
  unfold MicroOp.IsFaultSlot at h
  rw [MicroOp.FetchGoesTo, if_neg h, MicroOp.followedPc_eq]

section BundleFacts

variable {s : State} {window n used : Nat} {a b : Word} {us : List MicroOp}

theorem Bundle.ne_nil (h : Bundle s window n a used us b) (hn : 0 < n) (hw : used + 4 ≤ window) : us ≠ [] := by
  cases h with
  | full => omega
  | windowEnd _ _ _ _ hw' =>
    have : (lenOfParcel (BitVec.ofNat 16 (s.memRead a 2))).bytes ≤ 4 := by
      cases lenOfParcel (BitVec.ofNat 16 (s.memRead a 2)) <;> decide
    omega
  | _ => simp

theorem Bundle.length_le (h : Bundle s window n a used us b) : us.length ≤ n := by
  induction h <;> simp_all

theorem Bundle.within_window (h : Bundle s window n a used us b) (hu : used ≤ window) :
    used + instructionBytes us ≤ window := by
  induction h with
  | full | windowEnd | fault => simpa
  | redirect => simp; omega
  | next _ _ _ _ _ _ _ _ hw _ _ ih =>
    have := ih hw
    simp
    omega

/-- A bundle ends at its last lane, a fault slot, a redirect, or the end of the window. -/
theorem Bundle.maximal (h : Bundle s window n a used us b) :
    us.length = n ∨ (∃ u, us.getLast? = some u ∧ (u.IsFaultSlot ∨ u.predTaken = true)) ∨
      (InRegion s b 2 ∧
        window < used + instructionBytes us + if (s.mem.byte b.toNat).extractLsb' 0 2 = 3 then 4 else 2) := by
  induction h with
  | full => exact .inl rfl
  | windowEnd n a used h2 hw =>
    refine .inr (.inr ⟨(s.inRange_iff_inRegion a 2).1 h2, ?_⟩)
    rw [s.lenOfParcel_memRead] at hw
    split_ifs at hw ⊢ <;> simpa [Len.bytes] using hw
  | fault n a => exact .inr (.inl ⟨_, rfl, .inl (faultSlot_isFaultSlot a)⟩)
  | redirect n a used len word hf hw ht => exact .inr (.inl ⟨_, rfl, .inr ht⟩)
  | next n a used len word us b hf hw ht rest ih =>
    rcases ih with hfull | ⟨u, hlast, hu⟩ | ⟨hin, hend⟩
    · exact .inl (by simpa using hfull)
    · exact .inr (.inl ⟨u, by simp [List.getLast?_cons, hlast], hu⟩)
    · exact .inr (.inr ⟨hin, by rw [instructionBytes_fetchedOp]; omega⟩)

/-- A fault slot for a second parcel stands only where the four bytes would fit the window. -/
theorem Bundle.faultSlot_fits (h : Bundle s window n a used us b) {u : MicroOp} (hu : u ∈ us) (hf : u.IsFaultSlot)
    (hin : InRegion s u.pc 2) : used + instructionBytes us + 4 ≤ window := by
  induction h with
  | full | windowEnd => cases hu
  | fault n a used _ hw =>
    obtain rfl := List.mem_singleton.1 hu
    simpa using hw ((s.inRange_iff_inRegion a 2).2 hin)
  | redirect n a used len word =>
    obtain rfl := List.mem_singleton.1 hu
    exact absurd hf (s.fetchedOp_not_isFaultSlot a len word)
  | next n a used len word us b _ _ _ _ ih =>
    rcases List.mem_cons.1 hu with rfl | hu
    · exact absurd hf (s.fetchedOp_not_isFaultSlot a len word)
    · have := ih hu
      rw [instructionBytes_fetchedOp]
      omega

theorem Bundle.head_pc (h : Bundle s window n a used us b) {u : MicroOp} (hu : us[0]? = some u) : u.pc = a := by
  cases h with
  | full | windowEnd => cases hu
  | fault => cases hu; rfl
  | redirect | next => cases hu; exact s.fetchedOp_pc ..

/-- Each micro-op but the last is followed by the one at the next address. -/
theorem Bundle.contiguous (h : Bundle s window n a used us b) {k : Nat} {u v : MicroOp} (hu : us[k]? = some u)
    (hv : us[k + 1]? = some v) : v.pc = u.nextPc ∧ u.predTaken = false ∧ ¬ u.IsFaultSlot := by
  induction h generalizing k with
  | full | windowEnd | fault | redirect => simp at hv
  | next n a used len word us b hf hw ht rest ih =>
    cases k with
    | zero =>
      cases hu
      refine ⟨?_, ht, s.fetchedOp_not_isFaultSlot a len word⟩
      simpa [MicroOp.nextPc] using rest.head_pc (by simpa using hv)
    | succ k => exact ih (by simpa using hu) (by simpa using hv)

/-- Every micro-op of a bundle is a fault slot or holds the instruction fetched at its address. -/
theorem Bundle.mem_cases (h : Bundle s window n a used us b) {u : MicroOp} (hu : u ∈ us) :
    (s.fetchWord u.pc = none ∧ u = faultSlot u.pc) ∨
      ∃ c len word, s.fetchWord c = some (len, word) ∧ u = s.fetchedOp c len word := by
  induction h with
  | full | windowEnd => cases hu
  | fault n a used hf =>
    obtain rfl := List.mem_singleton.1 hu
    exact .inl ⟨hf, rfl⟩
  | redirect n a used len word hf =>
    obtain rfl := List.mem_singleton.1 hu
    exact .inr ⟨a, len, word, hf, rfl⟩
  | next n a used len word us b hf _ _ _ ih =>
    rcases List.mem_cons.1 hu with rfl | hu
    · exact .inr ⟨a, len, word, hf, rfl⟩
    · exact ih hu

theorem Bundle.fetchGoesTo (h : Bundle s window n a used us b) :
    (us = [] → b = a) ∧ ∀ u, us.getLast? = some u → u.FetchGoesTo b := by
  induction h with
  | full | windowEnd => simp
  | fault n a => exact ⟨by simp, fun u hu => by cases hu; exact (if_pos (faultSlot_isFaultSlot a)).symm⟩
  | redirect n a used len word hf hw ht =>
    refine ⟨by simp, fun u hu => ?_⟩
    obtain rfl : s.fetchedOp a len word = u := by simpa using hu
    rw [MicroOp.fetchGoesTo_of_not_slot (s.fetchedOp_not_isFaultSlot a len word), MicroOp.followedPc, if_pos ht]
  | next n a used len word us b hf hw ht rest ih =>
    obtain ⟨hempty, hlast⟩ := ih
    refine ⟨by simp, fun u hu => ?_⟩
    cases us with
    | nil =>
      obtain rfl : s.fetchedOp a len word = u := by simpa using hu
      rw [MicroOp.fetchGoesTo_of_not_slot (s.fetchedOp_not_isFaultSlot a len word), MicroOp.followedPc,
        if_neg (by simp [ht]), hempty rfl, MicroOp.nextPc, s.fetchedOp_pc, s.fetchedOp_len]
    | cons v us => exact hlast u (by simpa [List.getLast?_cons] using hu)

end BundleFacts

theorem State.fetchStage_run {s : State} (h : s.fetchMode = .run) : s.fetchStage = s.fetchRun := by
  simp [State.fetchStage, h]

/-- Settles O56: the modes are the equations of the stage, and the rest are facts about `Bundle`. -/
theorem fetchBuildsAContiguousBundle : Obligations.FetchBuildsAContiguousBundle := by
  intro s window f us used
  have hb : Bundle s window s.cfg.width s.pc 0 us f.2 := fetchLanes_bundle s window s.cfg.width s.pc 0
  have hused : 0 + instructionBytes us = used := Nat.zero_add _
  refine ⟨fun h => ?_, fun h => ?_, fun h => ?_, fun hwidth hwindow => hb.ne_nil hwidth (by omega), hb.length_le, ?_,
    ?_, fun u hu hf hin => ?_, fun u hu => hb.head_pc hu, fun k u v hu hv => ?_, fun u hu => ?_, fun u hu => ?_,
    fun u hu => hb.fetchGoesTo.2 u hu, fun hebr u hu => ?_⟩
  · rw [State.fetchStage_run h]
    rfl
  · simp [State.fetchStage, h, Latch.cleared, Latch.withLanes]
  · simp [State.fetchStage, h]
  · exact hused ▸ hb.within_window (Nat.zero_le _)
  · exact hused ▸ hb.maximal
  · exact hused ▸ hb.faultSlot_fits hu hf hin
  · rw [← Len.word_eq_ofNat]
    exact hb.contiguous hu hv
  · rcases hb.mem_cases hu with ⟨-, h⟩ | ⟨c, len, word, -, rfl⟩
    · rw [h]
      exact ⟨rfl, rfl, rfl, rfl, rfl, rfl, rfl⟩
    · obtain ⟨-, -, -, hfresh, -⟩ := s.fetchedOp_spec c len word
      exact hfresh
  · rcases hb.mem_cases hu with ⟨hf, h⟩ | ⟨c, len, word, hf, rfl⟩
    · rw [h]
      exact .inl ⟨rfl, rfl, rfl, rfl, rfl, hf⟩
    · refine .inr ⟨?_, s.fetchedOp_decodedAs c len word⟩
      rwa [s.fetchedOp_pc, s.fetchedOp_len, s.fetchedOp_word]
  · rcases hb.mem_cases hu with ⟨-, h⟩ | ⟨c, len, word, -, rfl⟩
    · rw [h]
      rfl
    · exact s.fetchedOp_not_predTaken c len word hebr

end Sys2Proof.Machine

/-!
PROOF. The classes of decoded records (spec/10_state.md R27): what the flags of one instruction say of each other, for
the records the Decoder gives.
-/

namespace Sys2Proof.Machine

/-- The instructions that may go elsewhere than to the next address. -/
def Op.jumps : Op → Bool
  | .jal | .jalr | .beq | .bne | .blt | .bge | .bltu | .bgeu => true
  | _ => false

theorem compute_taken_of_not_jumps {op : Op} (h : op.jumps = false) (pc : Word) (len : Len) (imm a b : Word) :
    (compute op pc len imm a b).taken = false := by
  cases op
  case jal | jalr | beq | bne | blt | bge | bltu | bgeu => cases h
  all_goals rfl

/-- What the flags of a decoded record say of each other. -/
structure Decoded.Regular (d : Decoded) : Prop where
  serial : d.serial = true ↔ d.op = .ebreak ∨ d.op = .ecall ∨ d.op = .fenceI
  system : d.serial = true → d.isLoad = false ∧ d.isStore = false ∧ d.regWrite = false
  store : d.isStore = true → d.isLoad = false ∧ d.regWrite = false
  memBytes : d.isLoad = true ∨ d.isStore = true → d.memBytes ∈ [1, 2, 4, 8]
  straight : d.isLoad = true ∨ d.isStore = true ∨ d.serial = true → d.op.jumps = false

theorem recordOf_regular (i : Instr) : (recordOf i).Regular where
  serial := by cases i <;> exact of_decide_eq_true rfl
  system := by cases i <;> exact of_decide_eq_true rfl
  store := by cases i <;> exact of_decide_eq_true rfl
  memBytes := by cases i <;> exact of_decide_eq_true rfl
  straight := by cases i <;> exact of_decide_eq_true rfl

theorem recordOf_len (i : Instr) : (recordOf i).len = lenOf i := by
  cases i <;> rfl

theorem lenOf_of_decode {word : InstWord} {len : Len} {i : Instr} (h : decode word len = .ok i) : lenOf i = len := by
  cases len with
  | two =>
    obtain ⟨-, hlen, -⟩ := decode16_encodes h
    exact hlen
  | four =>
    obtain ⟨-, hlen, -⟩ := decode32_encodes h
    exact hlen

theorem wellFormed_of_decode {word : InstWord} {len : Len} {i : Instr} (h : decode word len = .ok i) :
    i.wellFormed = true := by
  cases len with
  | two =>
    obtain ⟨-, -, hwf⟩ := decode16_encodes h
    exact hwf
  | four =>
    obtain ⟨-, -, hwf⟩ := decode32_encodes h
    exact hwf

section Regular

variable {d : Decoded} (h : d.Regular)

include h

/-- A record that is no load, no store and not serial. -/
theorem Decoded.Regular.not_serial_of_load (hl : d.isLoad = true) : d.serial = false := by
  by_contra hs
  obtain ⟨hno, -, -⟩ := h.system (by simpa using hs)
  simp [hl] at hno

theorem Decoded.Regular.not_serial_of_store (hl : d.isStore = true) : d.serial = false := by
  by_contra hs
  obtain ⟨-, hno, -⟩ := h.system (by simpa using hs)
  simp [hl] at hno

/-- Writeback goes on behind a micro-op whose record is not serial. -/
theorem Decoded.Regular.plain_of_not_serial {u : MicroOp} (hf : u.fault = none) (hd : u.dec = some d)
    (hs : d.serial = false) : u.plain := by
  have hno : ¬ (d.op = .ebreak ∨ d.op = .ecall ∨ d.op = .fenceI) := fun ho => by
    simp [h.serial.2 ho] at hs
  rw [not_or, not_or] at hno
  exact ⟨hf, d, hd, hno.1, hno.2.1, hno.2.2⟩

end Regular

end Sys2Proof.Machine

/-!
PROOF. One micro-op through Execute, Memory and Writeback (spec/40_pipeline_cycle.md R85 to R97), against the
sequential step over its record (spec/00_scope.md R14): what each of the three stages does for the step.
-/

namespace Sys2Proof.Machine

/-! ## Execute, lane by lane -/

/-- Lane `k` of what Execute makes: the slot of IDEX, with the older lanes as they come out. -/
theorem executeLanes_getElem? (done l : Lanes) (units : Units) (k : Nat) :
    (executeLanes done l units)[done.length + k]? =
      l[k]?.map fun slot => slot.map fun u =>
        executeOp ((executeLanes done l units).take (done.length + k)) u units := by
  induction l generalizing done k with
  | nil => simp [executeLanes]
  | cons slot rest ih =>
    have hprefix := executeLanes_prefix rest (done ++ [slot.map fun u => executeOp done u units]) units
    cases k with
    | zero =>
      have hget := hprefix.getElem (i := done.length) (by simp)
      have htake : (executeLanes done (slot :: rest) units).take done.length = done :=
        (List.prefix_iff_eq_take.1 (executeLanes_prefix (slot :: rest) done units)).symm
      rw [Nat.add_zero, htake]
      refine List.getElem?_eq_some_iff.2 ⟨?_, hget.symm.trans (by simp)⟩
      rw [executeLanes_length, List.length_cons]
      omega
    | succ k =>
      have hk := ih (done ++ [slot.map fun u => executeOp done u units]) k
      simp only [List.length_append, List.length_singleton, Nat.add_assoc, Nat.add_comm 1 k] at hk
      exact hk

/-- The same for a whole bundle. -/
theorem executeLanes_nil_getElem? (l : Lanes) (units : Units) (k : Nat) :
    (executeLanes [] l units)[k]? =
      l[k]?.map fun slot => slot.map fun u => executeOp ((executeLanes [] l units).take k) u units := by
  simpa using executeLanes_getElem? [] l units k

/-! ## The sequential step of a record, by its parts -/

/-- The value the step of the record gives rd (R14): the loaded data, or the ComputeUnit's result. -/
def State.rdValue (s : State) (d : Decoded) : Word :=
  if d.isLoad then extendLoad d.memBytes d.memSigned (s.memRead (s.computeRecord d).result d.memBytes)
  else (s.computeRecord d).result

/-- The step of the record makes an access that is out of range. -/
def State.accessFaults (s : State) (d : Decoded) : Prop :=
  (d.isLoad = true ∨ d.isStore = true) ∧ s.inRange (s.computeRecord d).result d.memBytes = false

/-- The pc after the step of the record, while the run goes on. -/
def State.recordNextPc (s : State) (d : Decoded) : Word :=
  if (s.computeRecord d).taken then (s.computeRecord d).target else s.pcAfter d.len

/-- Memory after the access of the step of the record, when it is in range. -/
def State.storedMem (s : State) (d : Decoded) : Memory :=
  if d.isStore then s.mem.writeLE (s.computeRecord d).result.toNat d.memBytes (s.computeRecord d).store.toNat
  else s.mem

section RecordStep

variable {s : State} {d : Decoded}

theorem State.recordStep_of_accessFaults (h : s.accessFaults d) :
    s.recordStep d = s.raise (.memoryFault s.pc (s.computeRecord d).result) := by
  obtain ⟨ha, hr⟩ := h
  unfold State.recordStep
  by_cases hl : d.isLoad = true
  · simp [hl, hr]
  · simp [hl, ha.resolve_left hl, hr]

theorem State.recordNextPc_of_not_jumps (h : d.op.jumps = false) : s.recordNextPc d = s.pcAfter d.len := by
  have ht : (s.computeRecord d).taken = false := compute_taken_of_not_jumps h ..
  simp [State.recordNextPc, ht]

theorem State.finishRecord_eq (v : Word) :
    s.finishRecord d v =
      { s with regs := if d.regWrite then writeRegs s.regs d.rd v else s.regs, pc := s.recordNextPc d } := by
  unfold State.finishRecord State.recordNextPc
  cases d.regWrite <;> rfl

/-- The step of a record whose instruction is no system action and whose access, if it makes one, is in range. -/
theorem State.recordStep_of_plain (hreg : d.Regular) (hs : d.serial = false) (h : ¬ s.accessFaults d) :
    s.recordStep d =
      { s with
        regs := if d.regWrite then writeRegs s.regs d.rd (s.rdValue d) else s.regs
        mem := s.storedMem d
        pc := s.recordNextPc d } := by
  have hop : ¬ (d.op = .ebreak ∨ d.op = .ecall ∨ d.op = .fenceI) := fun ho => by simp [hreg.serial.2 ho] at hs
  rw [not_or, not_or] at hop
  have hrange : d.isLoad = true ∨ d.isStore = true → s.inRange (s.computeRecord d).result d.memBytes = true :=
    fun ha => eq_true_of_ne_false fun hr => h ⟨ha, hr⟩
  unfold State.recordStep State.storedMem
  by_cases hst : d.isStore = true
  · obtain ⟨hl, hw⟩ := hreg.store hst
    have hnext : s.recordNextPc d = s.pcAfter d.len :=
      State.recordNextPc_of_not_jumps (hreg.straight (.inr (.inl hst)))
    simp only [hl, hst, hw, hrange (.inr hst), Units.reference_bus, if_true, Bool.false_eq_true, if_false, hnext]
    rfl
  · by_cases hl : d.isLoad = true
    · rw [if_pos hl, Units.reference_bus, if_pos (hrange (.inl hl)), State.finishRecord_eq, State.rdValue, if_pos hl, if_neg hst]
    · rw [if_neg hl, if_neg hst, if_neg hop.1, if_neg hop.2.1, State.finishRecord_eq, State.rdValue, if_neg hl,
        if_neg hst]

theorem State.recordStep_fenceI (hreg : d.Regular) (ho : d.op = .fenceI) :
    s.recordStep d = s.setPc (s.pcAfter d.len) := by
  have hser : d.serial = true := hreg.serial.2 (.inr (.inr ho))
  obtain ⟨hl, hst, hw⟩ := hreg.system hser
  have ht : (s.computeRecord d).taken = false := compute_taken_of_not_jumps (hreg.straight (.inr (.inr hser))) ..
  simp [State.recordStep, State.finishRecord, hl, hst, hw, ho, ht]

theorem State.recordStep_ebreak (hreg : d.Regular) (ho : d.op = .ebreak) :
    s.recordStep d = s.setStatus (.halted .ebreak) := by
  obtain ⟨hl, hst, -⟩ := hreg.system (hreg.serial.2 (.inl ho))
  simp [State.recordStep, hl, hst, ho]

theorem State.recordStep_ecall (hreg : d.Regular) (ho : d.op = .ecall) :
    s.recordStep d =
      if s.hostReply.verdict = .continue then (s.hostCall s.pc).setPc (s.pcAfter d.len) else s.hostCall s.pc := by
  obtain ⟨hl, hst, -⟩ := hreg.system (hreg.serial.2 (.inr (.inl ho)))
  simp [State.recordStep, hl, hst, ho]

end RecordStep

/-! ## Execute, for the step from a state -/

/-- `u` is a fault-free micro-op with the record `d`, at the pc of `s`, and Execute has given it what the ComputeUnit
answers for the step of `d` from `s`. -/
structure Executed (s : State) (u : MicroOp) (d : Decoded) : Prop where
  fault : u.fault = none
  dec : u.dec = some d
  regular : d.Regular
  len : d.len = u.len
  pc : u.pc = s.pc
  result : u.result = (s.computeRecord d).result
  store : u.store = (s.computeRecord d).store
  taken : u.taken = (s.computeRecord d).taken
  target : u.target = (s.computeRecord d).target

theorem Executed.actualPc {s : State} {u : MicroOp} {d : Decoded} (h : Executed s u d) :
    u.actualPc = s.recordNextPc d := by
  simp [MicroOp.actualPc, State.recordNextPc, h.taken, h.target, MicroOp.nextPc, State.pcAfter, h.pc, h.len]

/-- Execute of a micro-op whose sources give the operands of the step. -/
theorem executeOp_executed {s : State} {u : MicroOp} {d : Decoded} {done : Lanes} (hf : u.fault = none)
    (hd : u.dec = some d) (hreg : d.Regular) (hlen : d.len = u.len) (hpc : u.pc = s.pc)
    (ha : OperandFrom done u.srcA (s.operandA d)) (hb : OperandFrom done u.srcB (s.operandB d)) :
    Executed s (executeOp done u) d := by
  have ho : Units.reference.compute d.op u.pc u.len d.imm (s.operandA d) (s.operandB d) = s.computeRecord d := by
    rw [hpc, ← hlen]
    rfl
  rw [executeOp_eq hf hd ha hb, ho]
  exact ⟨hf, hd, hreg, hlen, hpc, rfl, rfl, rfl, rfl⟩

/-! ## Memory, for the step from a state -/

/-- `u` is a fault-free micro-op at the pc of `s` that Memory is done with: what it writes back is the step's value, and
a store is still that of the step. -/
structure Accessed (s : State) (u : MicroOp) (d : Decoded) : Prop where
  fault : u.fault = none
  dec : u.dec = some d
  regular : d.Regular
  len : d.len = u.len
  pc : u.pc = s.pc
  inRange : ¬ s.accessFaults d
  value : d.regWrite = true → u.result = s.rdValue d
  address : d.isStore = true → u.result = (s.computeRecord d).result
  store : d.isStore = true → u.store = (s.computeRecord d).store

theorem State.inRange_congr {s m : State} (h : m.plat = s.plat) (a : Word) (n : Nat) :
    m.inRange a n = s.inRange a n := by
  simp only [State.inRange, h]

section MemoryLane

variable {s m : State} {u : MicroOp} {d : Decoded} {rest : Lanes}

/-- A micro-op that is no load leaves Memory as it came. -/
theorem Executed.accessed (h : Executed s u d) (hr : ¬ s.accessFaults d) (hl : d.isLoad = false) : Accessed s u d :=
  ⟨h.fault, h.dec, h.regular, h.len, h.pc, hr, fun _ => by simp [State.rdValue, hl, h.result], fun _ => h.result,
    fun _ => h.store⟩

/-- A load in range, with the data of the memory it reads. -/
theorem Executed.loadOp_accessed (h : Executed s u d) (hmem : m.mem = s.mem) (hr : ¬ s.accessFaults d)
    (hl : d.isLoad = true) : Accessed s (m.loadOp u) d := by
  have hst : d.isStore = false := by
    by_contra hst
    obtain ⟨hno, -⟩ := h.regular.store (by simpa using hst)
    simp [hl] at hno
  refine ⟨h.fault, h.dec, h.regular, h.len, h.pc, hr, fun _ => ?_, by simp [hst], by simp [hst]⟩
  simp [State.loadOp, State.rdValue, hl, MicroOp.memBytes_of_dec h.dec, u.flag_of_some _ d h.dec, State.memRead, hmem,
    h.result]

/-- Memory of one executed micro-op, whose access is in range if it makes one: the lane it becomes, and the state the
stage goes on from, or the state after the store-snoop flush. -/
theorem memoryLanes_executed (h : Executed s u d) (hmem : m.mem = s.mem) (hplat : m.plat = s.plat)
    (hr : ¬ s.accessFaults d) :
    (d.isStore = false ∧
      ∃ v, Accessed s v d ∧ memoryLanes (some u :: rest) m = (some v :: (memoryLanes rest m).1, (memoryLanes rest m).2)) ∨
    (d.isStore = true ∧ Accessed s u d ∧
      (snoopHit u.result.toNat d.memBytes (rest ++ m.idex.lanes ++ m.ifid.lanes) = false ∧
        memoryLanes (some u :: rest) m =
          (some u :: (memoryLanes rest (m.memWrite u.result d.memBytes u.store)).1,
            (memoryLanes rest (m.memWrite u.result d.memBytes u.store)).2) ∨
        memoryLanes (some u :: rest) m =
          (some u :: bubbles rest.length, (m.memWrite u.result d.memBytes u.store).snoopFlush u))) := by
  have hrange : d.isLoad = true ∨ d.isStore = true → m.inRange u.result u.memBytes = true := fun ha => by
    rw [MicroOp.memBytes_of_dec h.dec, h.result]
    exact (State.inRange_congr hplat _ _).trans (eq_true_of_ne_false fun hno => hr ⟨ha, hno⟩)
  have hload : u.flag Decoded.isLoad = d.isLoad := u.flag_of_some _ d h.dec
  have hstore : u.flag Decoded.isStore = d.isStore := u.flag_of_some _ d h.dec
  by_cases hst : d.isStore = true
  · obtain ⟨hl, -⟩ := h.regular.store hst
    refine .inr ⟨hst, h.accessed hr hl, ?_⟩
    cases hs : snoopHit u.result.toNat d.memBytes (rest ++ m.idex.lanes ++ m.ifid.lanes) with
    | false =>
      have := memoryLanes_store h.fault (hload.trans hl) (hstore.trans hst) (hrange (.inr hst))
        (rest := rest) (by rwa [MicroOp.memBytes_of_dec h.dec])
      rw [MicroOp.memBytes_of_dec h.dec] at this
      exact .inl ⟨rfl, this⟩
    | true =>
      have := memoryLanes_snoop h.fault (hload.trans hl) (hstore.trans hst) (hrange (.inr hst))
        (rest := rest) (by rwa [MicroOp.memBytes_of_dec h.dec])
      rw [MicroOp.memBytes_of_dec h.dec] at this
      exact .inr this
  · have hst : d.isStore = false := by simpa using hst
    refine .inl ⟨hst, ?_⟩
    by_cases hl : d.isLoad = true
    · exact ⟨_, h.loadOp_accessed hmem hr hl, memoryLanes_load h.fault (hload.trans hl) (hrange (.inl hl)) rest⟩
    · have hl : d.isLoad = false := by simpa using hl
      exact ⟨u, h.accessed hr hl, memoryLanes_copied (fun _ => ⟨hload.trans hl, hstore.trans hst⟩) rest m⟩

/-- Memory of one executed micro-op whose access is out of range. -/
theorem memoryLanes_executed_fault (h : Executed s u d) (hplat : m.plat = s.plat) (hr : s.accessFaults d) :
    memoryLanes (some u :: rest) m = (some (faultOp u) :: bubbles rest.length, m) := by
  obtain ⟨ha, hno⟩ := hr
  refine memoryLanes_fault h.fault ?_ ?_ rest
  · simpa [u.flag_of_some _ d h.dec] using ha
  · rw [MicroOp.memBytes_of_dec h.dec, h.result]
    exact (State.inRange_congr hplat _ _).trans hno

end MemoryLane

/-! ## Writeback, for the step from a state -/

section Writeback

variable {s m : State} {u : MicroOp} {d : Decoded}

/-- Writeback of a plain micro-op: the step's registers, and nothing else but the two counters. -/
theorem Accessed.retireOp_plain (h : Accessed s u d) (hs : d.serial = false) (hregs : m.regs = s.regs) :
    m.retireOp u = (.nextLane, { m.countRetired u with regs := (s.recordStep d).regs }) := by
  obtain ⟨hf, d', hd, h1, h2, h3⟩ := h.regular.plain_of_not_serial h.fault h.dec hs
  rw [State.retireOp_plain hf hd h1 h2 h3, State.recordStep_of_plain h.regular hs h.inRange]
  cases hw : d.regWrite with
  | true => simp [State.commitReg, h.dec, hw, State.countRetired, State.count, State.setReg, hregs, h.value hw]
  | false => simp [State.commitReg, h.dec, hw, State.countRetired, State.count, ← hregs]

/-- The architectural state a host sees, and the platform, agree. -/
structure SameView (s m : State) : Prop where
  plat : m.plat = s.plat
  regs : m.regs = s.regs
  mem : m.mem = s.mem
  out : m.out = s.out

theorem SameView.hostReply (h : SameView s m) : m.hostReply = s.hostReply := by
  have hreg : m.reg = s.reg := funext fun r => State.reg_congr h.regs r
  simp [State.hostReply, h.plat, h.regs, h.mem, h.out, hreg]

/-- The same call of the host: the same architectural state. -/
theorem SameView.hostCall (h : SameView s m) (pc : Word) :
    SameView (s.hostCall pc) (m.hostCall pc) ∧
      ((m.hostCall pc).status = if s.hostReply.verdict = .continue then m.status else (s.hostCall pc).status) := by
  have hreply := h.hostReply
  cases hv : s.hostReply.verdict using verdictCases with
  | goesOn =>
    rw [State.hostCall_continue hv, State.hostCall_continue (by rwa [hreply]), hreply]
    exact ⟨⟨h.plat, by simp [h.regs], by simp [h.mem, h.plat], by simp [h.out]⟩, rfl⟩
  | exit =>
    rw [State.hostCall_exit hv, State.hostCall_exit (by rwa [hreply]), hreply]
    exact ⟨⟨h.plat, by simp [h.regs], by simp [h.mem, h.plat], by simp [h.out]⟩, rfl⟩
  | fault addr =>
    rw [State.hostCall_fault hv, State.hostCall_fault (by rwa [hreply])]
    exact ⟨⟨h.plat, h.regs, h.mem, h.out⟩, rfl⟩
  | refuse =>
    rw [State.hostCall_refuse hv, State.hostCall_refuse (by rwa [hreply])]
    exact ⟨⟨h.plat, h.regs, h.mem, h.out⟩, rfl⟩

/-- Writeback of a system action: the step's architectural state, and where the run goes on, a flush that leaves
nothing younger in flight. -/
theorem Accessed.retireOp_serial (h : Accessed s u d) (hs : d.serial = true) (hv : SameView s m)
    (hrun : s.status = .running) (hrun' : m.status = .running) :
    ∃ t, m.retireOp u = (.done, t) ∧ SameArchitecture (s.recordStep d) t ∧
      t.metrics.isaRetired = m.metrics.isaRetired + 1 ∧
      (t.status = .running → t.pc = (s.recordStep d).pc ∧
        t.exmem = m.exmem.cleared ∧ t.idex = m.idex.cleared ∧ t.ifid = m.ifid.cleared) := by
  obtain ⟨-, -, hw⟩ := h.regular.system hs
  have hcommit : m.commitReg u = m := State.commitReg_of_not_regWrite h.dec hw m
  have hnext : u.nextPc = s.pcAfter d.len := by rw [MicroOp.nextPc, State.pcAfter, h.pc, h.len]
  rcases h.regular.serial.1 hs with ho | ho | ho
  · refine ⟨_, State.retireOp_ebreak h.fault h.dec ho, ?_⟩
    rw [hcommit, State.recordStep_ebreak h.regular ho]
    exact ⟨⟨hv.regs, hv.mem, hv.out, rfl⟩, rfl, nofun⟩
  · refine ⟨_, State.retireOp_ecall h.fault h.dec ho, ?_⟩
    rw [hcommit, State.recordStep_ecall h.regular ho, State.countRetired_hostReply, hv.hostReply]
    have hv' : SameView s (m.countRetired u) := ⟨hv.plat, hv.regs, hv.mem, hv.out⟩
    obtain ⟨hcall, hstatus⟩ := hv'.hostCall u.pc
    have hmetrics := ((m.countRetired u).hostCall_sameMachine u.pc).metrics
    obtain ⟨-, -, -, hifid, hidex, hexmem, -⟩ := (m.countRetired u).hostCall_sameMachine u.pc
    rw [h.pc] at *
    split_ifs at hstatus ⊢ with hc
    · have hs' : (s.hostCall s.pc).status = s.status := by rw [State.hostCall_continue hc]; rfl
      refine ⟨⟨hcall.regs, hcall.mem, hcall.out, ?_⟩, ?_, fun _ => ⟨hnext, ?_, ?_, ?_⟩⟩
      · exact (hstatus.trans hrun').trans (hrun.symm.trans hs'.symm)
      · simp [hmetrics]
      · simp [hexmem]
      · simp [hidex]
      · simp [hifid]
    · refine ⟨⟨hcall.regs, hcall.mem, hcall.out, hstatus⟩, by simp [hmetrics], fun hr => absurd hr ?_⟩
      rw [hstatus]
      cases hverdict : s.hostReply.verdict using verdictCases with
      | goesOn => exact absurd hverdict hc
      | exit => simp [State.hostCall_exit hverdict]
      | fault addr => simp [State.hostCall_fault hverdict]
      | refuse => simp [State.hostCall_refuse hverdict]
  · refine ⟨_, State.retireOp_fenceI h.fault h.dec ho, ?_⟩
    rw [hcommit, State.recordStep_fenceI h.regular ho]
    exact ⟨⟨hv.regs, hv.mem, hv.out, hrun'.trans hrun.symm⟩, rfl, fun _ => ⟨hnext, rfl, rfl, rfl⟩⟩

/-- Memory has done the access of the step, and Writeback of the one micro-op gives the step's architectural state. -/
theorem Accessed.retireLanes_singleton (h : Accessed s u d) (hregs : m.regs = s.regs) (hmem : m.mem = s.storedMem d)
    (hout : m.out = s.out) (hplat : m.plat = s.plat) (hrun : s.status = .running) (hrun' : m.status = .running) :
    SameArchitecture (s.recordStep d) (retireLanes [some u] m) := by
  cases hs : d.serial with
  | false =>
    have hstep := State.recordStep_of_plain h.regular hs h.inRange
    have hretire : retireLanes [some u] m = { m.countRetired u with regs := (s.recordStep d).regs } := by
      simp only [retireLanes, h.retireOp_plain hs hregs]
    rw [hretire]
    refine ⟨rfl, ?_, ?_, ?_⟩ <;> rw [hstep]
    · exact hmem
    · exact hout
    · exact hrun'.trans hrun.symm
  | true =>
    obtain ⟨-, hst, -⟩ := h.regular.system hs
    have hmem' : m.mem = s.mem := by rw [hmem, State.storedMem, if_neg (by simp [hst])]
    obtain ⟨t, ht, harch, -⟩ := h.retireOp_serial hs ⟨hplat, hregs, hmem', hout⟩ hrun hrun'
    rwa [retireLanes_ended ht]

end Writeback

/-! ## The obligation -/

/-- Memory and Writeback of one executed micro-op, alone in its lanes. -/
theorem Executed.through_stages {s : State} {u : MicroOp} {d : Decoded} (h : Executed s u d)
    (hrun : s.status = .running) :
    SameArchitecture (s.recordStep d) (retireLanes (memoryLanes [some u] s).1 (memoryLanes [some u] s).2) := by
  by_cases hr : s.accessFaults d
  · rw [memoryLanes_executed_fault h rfl hr, State.recordStep_of_accessFaults hr]
    simp only [List.length_nil, bubbles_zero]
    rw [retireLanes_fault rfl, h.pc, h.result]
    exact ⟨rfl, rfl, rfl, rfl⟩
  · rcases memoryLanes_executed (rest := []) h rfl rfl hr with ⟨hst, v, hv, hm⟩ | ⟨hst, hv, ⟨-, hm⟩ | hm⟩ <;> rw [hm]
    · exact hv.retireLanes_singleton rfl (by rw [State.storedMem, if_neg (by simp [hst])]; rfl) rfl rfl hrun hrun
    · refine hv.retireLanes_singleton rfl ?_ rfl rfl hrun hrun
      rw [State.storedMem, if_pos hst, h.result, h.store]
      rfl
    · refine hv.retireLanes_singleton rfl ?_ rfl rfl hrun hrun
      rw [State.storedMem, if_pos hst, h.result, h.store]
      rfl

/-- While the reference goes on, its next pc is that of the record. -/
theorem State.recordStep_pc {s : State} {d : Decoded} (hreg : d.Regular) (hrun : (s.recordStep d).status = .running) :
    (s.recordStep d).pc = s.recordNextPc d := by
  by_cases hr : s.accessFaults d
  · simp [State.recordStep_of_accessFaults hr] at hrun
  cases hs : d.serial with
  | false => rw [State.recordStep_of_plain hreg hs hr]
  | true =>
    rw [State.recordNextPc_of_not_jumps (hreg.straight (.inr (.inr hs)))]
    rcases hreg.serial.1 hs with ho | ho | ho
    · simp [State.recordStep_ebreak hreg ho] at hrun
    · rw [State.recordStep_ecall hreg ho] at hrun ⊢
      split_ifs at hrun ⊢ with hc
      · rfl
      · cases hverdict : s.hostReply.verdict using verdictCases with
        | goesOn => exact absurd hverdict hc
        | exit => simp [State.hostCall_exit hverdict] at hrun
        | fault addr => simp [State.hostCall_fault hverdict] at hrun
        | refuse => simp [State.hostCall_refuse hverdict] at hrun
    · rw [State.recordStep_fenceI hreg ho]
      rfl

/-- Settles O59: Execute gives the micro-op what the ComputeUnit answers for the step, and from there Memory and
Writeback are those of an executed micro-op; a bundle is executed lane by lane. -/
theorem oneInstructionThroughTheStages : Obligations.OneInstructionThroughTheStages := by
  refine ⟨fun s len word i t done srcA srcB hrun hfetch hdec ha hb ht => ?_, fun s => rfl, fun l => ?_⟩
  · have hstep : t = s.recordStep (recordOf i) := by
      rw [State.referenceStep_eq, State.referenceStepWith] at ht
      simp only [Units.reference_bus, hfetch, Units.reference_decode, decodeRecord_ok hdec] at ht
      injection ht with ht
      exact ht.symm
    have hlen : (recordOf i).len = len := (recordOf_len i).trans (lenOf_of_decode hdec)
    have hnew := newMicroOp_of_decode s.pc hdec
    have he : Executed s (executeOp done { newMicroOp s.pc len word with srcA := srcA, srcB := srcB }) (recordOf i) := by
      refine executeOp_executed ?_ ?_ (recordOf_regular i) ?_ ?_ ha hb <;> rw [hnew]
      · rfl
      · exact hlen
      · rfl
    refine ⟨_, rfl, hstep ▸ he.through_stages hrun, fun hgo => ?_⟩
    rw [he.actualPc, hstep, State.recordStep_pc (recordOf_regular i) (hstep ▸ hgo)]
  · intro out
    refine ⟨by simpa using executeLanes_length l [] .reference, fun k => ?_⟩
    have hk := executeLanes_nil_getElem? l .reference k
    refine ⟨fun hbubble => by rw [hk, hbubble]; rfl, fun u hu => ⟨fun hf => ?_, fun d a b hf hd ha hb => ?_⟩⟩
    · rw [hk, hu, Option.map_some, Option.map_some, executeOp_fault hf]
    · rw [hk, hu, Option.map_some, Option.map_some, executeOp_eq hf hd ha hb]
      rfl

end Sys2Proof.Machine

/-!
PROOF. What each stage of a cycle can do (spec/40_pipeline_cycle.md R69), said once for any Decoder, ComputeUnit and
MemoryBus: the ways a lane can end at Writeback, a pass of the Memory stage, and the first mismatch.
-/

namespace Sys2Proof.Machine

/-! ## Writeback: how one micro-op retires -/

/-- The state after the commit of `u`, with its two counters (R94, R95). -/
def State.commit (s : State) (u : MicroOp) : State := (s.commitReg u).countRetired u

/-- The ways in which a micro-op can retire (R92 to R98). -/
inductive Retires (s : State) (u : MicroOp) : LaneEnd × State → Prop
  | raises (e : RunError) (hf : u.fault = some e) : Retires s u (.done, s.raise e)
  | commits (hf : u.fault = none) : Retires s u (.nextLane, s.commit u)
  | ends (hf : u.fault = none) (st : Status) (hst : st ≠ .running ∧ st ≠ .notHalted) :
      Retires s u (.done, (s.commit u).setStatus st)
  | flushes (hf : u.fault = none) : Retires s u (.done, (s.commit u).serialFlush u)
  | continues (hf : u.fault = none) (d : Decoded) (hd : u.dec = some d) (ho : d.op = .ecall)
      (hv : (s.commitReg u).hostReply.verdict = .continue) :
      Retires s u (.done, ((s.commit u).applyReply (s.commitReg u).hostReply).serialFlush u)
  | exits (hf : u.fault = none) (d : Decoded) (hd : u.dec = some d) (ho : d.op = .ecall)
      (hv : (s.commitReg u).hostReply.verdict = .exit) :
      Retires s u (.done, ((s.commit u).applyReply (s.commitReg u).hostReply).setStatus (.halted .exit))

theorem State.retireOp_retires (s : State) (u : MicroOp) : Retires s u (s.retireOp u) := by
  rcases Option.eq_none_or_eq_some u.fault with hf | ⟨e, hf⟩
  · rcases Option.eq_none_or_eq_some u.dec with hd | ⟨d, hd⟩
    · have h : s.retireOp u = (.nextLane, s.commit u) := by simp [State.retireOp, hf, hd, State.commit]
      exact h ▸ .commits hf
    · by_cases h1 : d.op = .ebreak
      · exact State.retireOp_ebreak hf hd h1 ▸ .ends hf _ ⟨nofun, nofun⟩
      by_cases h2 : d.op = .ecall
      · rw [State.retireOp_ecall hf hd h2]
        have hreply : ((s.commitReg u).countRetired u).hostReply = (s.commitReg u).hostReply := rfl
        cases hv : (s.commitReg u).hostReply.verdict using verdictCases with
        | goesOn =>
          rw [if_pos (hreply ▸ hv), State.hostCall_continue (hreply ▸ hv)]
          exact .continues hf d hd h2 hv
        | exit =>
          rw [if_neg (by simp [hreply, hv]), State.hostCall_exit (hreply ▸ hv)]
          exact .exits hf d hd h2 hv
        | fault addr =>
          rw [if_neg (by simp [hreply, hv]), State.hostCall_fault (hreply ▸ hv)]
          exact .ends hf _ ⟨nofun, nofun⟩
        | refuse =>
          rw [if_neg (by simp [hreply, hv]), State.hostCall_refuse (hreply ▸ hv)]
          exact .ends hf _ ⟨nofun, nofun⟩
      by_cases h3 : d.op = .fenceI
      · exact State.retireOp_fenceI hf hd h3 ▸ .flushes hf
      · exact State.retireOp_plain hf hd h1 h2 h3 ▸ .commits hf
  · exact State.retireOp_fault hf ▸ .raises e hf

theorem retireLanes_cons (u : MicroOp) (rest : Lanes) (s : State) :
    (∃ t, Retires s u (.nextLane, t) ∧ retireLanes (some u :: rest) s = retireLanes rest t) ∨
      ∃ t, Retires s u (.done, t) ∧ retireLanes (some u :: rest) s = t := by
  have h := s.retireOp_retires u
  rcases hr : s.retireOp u with ⟨e, t⟩
  rw [hr] at h
  cases e with
  | nextLane => exact .inl ⟨t, h, by simp only [retireLanes, hr]⟩
  | done => exact .inr ⟨t, h, by simp only [retireLanes, hr]⟩

section Commit

variable (s : State) (u : MicroOp)

@[simp] theorem State.commitReg_metrics : (s.commitReg u).metrics = s.metrics := by
  obtain ⟨regs, h⟩ := s.commitReg_eq u
  rw [h]

@[simp] theorem State.commit_metrics :
    (s.commit u).metrics =
      { s.metrics with
        isaRetired := s.metrics.isaRetired + 1
        committed := if u.fusedPrev then s.metrics.committed else s.metrics.committed + 1 } := by
  simp [State.commit]

/-- A commit touches the registers and the metrics only. -/
theorem State.commit_eq : ∃ regs m, s.commit u = { s with regs := regs, metrics := m } := by
  obtain ⟨regs, h⟩ := s.commitReg_eq u
  exact ⟨regs, _, by rw [State.commit, h]; rfl⟩

end Commit

/-! ## Memory: one pass over the lanes of EXMEM -/

/-- A pass of the Memory stage: the lanes it takes and the state it starts in, the lanes it makes and the state after
(R89 to R91). -/
inductive MemoryPass (bus : MemoryBus) : Lanes → State → Lanes → State → Prop
  | nil (s : State) : MemoryPass bus [] s [] s
  | bubble {rest s l t} (h : MemoryPass bus rest s l t) : MemoryPass bus (none :: rest) s (none :: l) t
  | copy {rest s l t} (u : MicroOp)
      (hu : u.fault = none → u.flag Decoded.isLoad = false ∧ u.flag Decoded.isStore = false)
      (h : MemoryPass bus rest s l t) : MemoryPass bus (some u :: rest) s (some u :: l) t
  | load {rest s l t} (u : MicroOp) (hf : u.fault = none) (hl : u.flag Decoded.isLoad = true)
      (hr : s.inRange u.result u.memBytes bus = true) (h : MemoryPass bus rest s l t) :
      MemoryPass bus (some u :: rest) s (some (s.loadOp u bus) :: l) t
  | fault {rest s} (u : MicroOp) (hf : u.fault = none)
      (ha : u.flag Decoded.isLoad = true ∨ u.flag Decoded.isStore = true)
      (hr : s.inRange u.result u.memBytes bus = false) :
      MemoryPass bus (some u :: rest) s (some (faultOp u) :: bubbles rest.length) s
  | store {rest s l t} (u : MicroOp) (hf : u.fault = none) (hs : u.flag Decoded.isStore = true)
      (hr : s.inRange u.result u.memBytes bus = true)
      (hno : snoopHit u.result.toNat u.memBytes (rest ++ s.idex.lanes ++ s.ifid.lanes) = false)
      (h : MemoryPass bus rest (s.memWrite u.result u.memBytes u.store bus) l t) :
      MemoryPass bus (some u :: rest) s (some u :: l) t
  | snoop {rest s} (u : MicroOp) (hf : u.fault = none) (hs : u.flag Decoded.isStore = true)
      (hr : s.inRange u.result u.memBytes bus = true) :
      MemoryPass bus (some u :: rest) s (some u :: bubbles rest.length)
        ((s.memWrite u.result u.memBytes u.store bus).snoopFlush u)

theorem memoryLanes_pass (bus : MemoryBus) (l : Lanes) (s : State) :
    MemoryPass bus l s (memoryLanes l s bus).1 (memoryLanes l s bus).2 := by
  induction l generalizing s with
  | nil => exact .nil s
  | cons slot rest ih =>
    cases slot with
    | none => exact .bubble (ih s)
    | some u =>
      by_cases hacc : u.fault = none → u.flag Decoded.isLoad = false ∧ u.flag Decoded.isStore = false
      · rw [memoryLanes_copied hacc]
        exact .copy u hacc (ih s)
      obtain ⟨hf, hacc⟩ := Classical.not_imp.1 hacc
      have ha : u.flag Decoded.isLoad = true ∨ u.flag Decoded.isStore = true := by
        by_contra hno
        rw [not_or, Bool.not_eq_true, Bool.not_eq_true] at hno
        exact hacc hno
      cases hr : s.inRange u.result u.memBytes bus with
      | false =>
        rw [memoryLanes_fault hf ha hr]
        exact .fault u hf ha hr
      | true =>
        cases hl : u.flag Decoded.isLoad with
        | true =>
          rw [memoryLanes_load hf hl hr]
          exact .load u hf hl hr (ih s)
        | false =>
          have hs : u.flag Decoded.isStore = true := ha.resolve_left (by simp [hl])
          cases hsnoop : snoopHit u.result.toNat u.memBytes (rest ++ s.idex.lanes ++ s.ifid.lanes) with
          | false =>
            rw [memoryLanes_store hf hl hs hr hsnoop]
            exact .store u hf hs hr hsnoop (ih _)
          | true =>
            rw [memoryLanes_snoop hf hl hs hr hsnoop]
            exact .snoop u hf hs hr

/-! ## The ControlHazardUnit: the first mismatch -/

theorem onCorrectPath_nil : OnCorrectPath [] := by simp [OnCorrectPath]

/-- No lane is mismatched, or there is a first one. -/
theorem firstMismatch_cases (l : Lanes) :
    OnCorrectPath l ∨ ∃ pre u rest, l = pre ++ some u :: rest ∧ OnCorrectPath pre ∧ u.fault = none ∧
      u.actualPc ≠ u.followedPc := by
  induction l with
  | nil => exact .inl onCorrectPath_nil
  | cons slot l ih =>
    by_cases hslot : ∀ q, slot = some q → q.fault ≠ none ∨ q.actualPc = q.followedPc
    · have cons {m : Lanes} (hm : OnCorrectPath m) : OnCorrectPath (slot :: m) := fun q hq => by
        rcases List.mem_cons.1 hq with hq | hq
        · exact hslot q hq.symm
        · exact hm q hq
      rcases ih with h | ⟨pre, u, rest, rfl, hpre, hf, hne⟩
      · exact .inl (cons h)
      · exact .inr ⟨slot :: pre, u, rest, rfl, cons hpre, hf, hne⟩
    · push Not at hslot
      obtain ⟨u, rfl, hf, hne⟩ := hslot
      exact .inr ⟨[], u, l, rfl, onCorrectPath_nil, hf, hne⟩

/-- Everything the ControlHazardUnit can do (R113 to R115): only resolve the lanes, or resolve up to the first mismatch
and flush. -/
theorem State.controlHazard_cases (s : State) :
    (OnCorrectPath s.exmem.lanes ∧
      s.controlHazard = (resolvedBy s.exmem.lanes s).countBranches s.exmem.lanes) ∨
    ∃ pre u rest, s.exmem.lanes = pre ++ some u :: rest ∧ OnCorrectPath pre ∧ u.fault = none ∧
      u.actualPc ≠ u.followedPc ∧
      s.controlHazard =
        { ((resolvedBy (pre ++ [some u]) s).countBranches (pre ++ [some u])).redirect u with
          exmem := s.exmem.withLanes (pre ++ some u :: bubbles rest.length) } := by
  rcases firstMismatch_cases s.exmem.lanes with h | ⟨pre, u, rest, hl, hpre, hf, hne⟩
  · exact .inl ⟨h, State.controlHazard_of_correctPath h⟩
  · exact .inr ⟨pre, u, rest, hl, hpre, hf, hne, State.controlHazard_of_mismatch_eq hl hpre hf hne⟩

/-! ## Decode with an empty IFID -/

theorem planLanes_of_allBubbles {c : Config} {older : List MicroOp} {f : Bool} {l : Lanes} (h : AllBubbles l) :
    planLanes c older f l = [] := by
  cases l with
  | nil => rfl
  | cons slot rest =>
    obtain rfl := h slot List.mem_cons_self
    rfl

/-- With an empty IFID nothing is issued, and nothing stalls or splits (R82). -/
theorem State.decodeStage_of_allBubbles {s : State} (h : AllBubbles s.ifid.lanes) :
    s.decodeStage = { s with idex := s.idex.withLanes (packLanes s.cfg.width []) } := by
  unfold State.decodeStage
  rw [planLanes_of_allBubbles h]
  simp only [State.resolveAll, State.issue]
  split
  case h_1 u hu => cases h _ (List.mem_of_getElem? hu)
  case h_2 => rfl

/-- What an issue does to pc and the metrics: nothing, or the split. -/
theorem State.issue_cases (s : State) (ops : List MicroOp) :
    s.issue ops = { s with idex := s.idex.withLanes (packLanes s.cfg.width ops) } ∨
      ∃ u, some u ∈ s.ifid.lanes ∧ s.issue ops =
        { s with
          idex := s.idex.withLanes (packLanes s.cfg.width ops)
          pc := u.pc
          metrics := { s.metrics with splits := s.metrics.splits + 1 } } := by
  unfold State.issue
  split
  case h_1 u hu => exact .inr ⟨u, List.mem_of_getElem? hu, rfl⟩
  case h_2 => exact .inl rfl

theorem allBubbles_cleared (l : Latch) : AllBubbles l.cleared.lanes := allBubbles_bubbles _

theorem executeLanes_of_allBubbles {l done : Lanes} (h : AllBubbles l) (units : Units) :
    executeLanes done l units = done ++ l := by
  induction l generalizing done with
  | nil => simp [executeLanes]
  | cons slot rest ih =>
    obtain rfl := h slot List.mem_cons_self
    have hrest : AllBubbles rest := fun q hq => h q (List.mem_cons_of_mem _ hq)
    simp [executeLanes, ih hrest]

end Sys2Proof.Machine

/-!
PROOF. What a cycle leaves alone, what it counts and how a run ends (spec/10_state.md R34, spec/40_pipeline_cycle.md R72,
spec/41_hazards_and_flush.md R117): the effect of each stage on the metrics and on what is in flight behind it.
-/

namespace Sys2Proof.Machine

/-! ## What no step writes -/

/-- The configuration, the platform and the engine are the same. -/
structure SameSetup (s t : State) : Prop where
  cfg : t.cfg = s.cfg
  plat : t.plat = s.plat
  engine : t.engine = s.engine

theorem SameSetup.trans {s t v : State} (h : SameSetup s t) (h' : SameSetup t v) : SameSetup s v :=
  ⟨h'.cfg.trans h.cfg, h'.plat.trans h.plat, h'.engine.trans h.engine⟩

theorem SameMachine.sameSetup {s t : State} (h : SameMachine s t) : SameSetup s t := ⟨h.cfg, h.plat, h.engine⟩

section Setup

variable (s : State) (units : Units)

theorem State.writebackStage_sameSetup : SameSetup s s.writebackStage := by
  obtain ⟨hcfg, hplat, hengine, -⟩ := retireLanes_keeps s.memwb.lanes s
  exact ⟨hcfg, hplat, hengine⟩

theorem State.memoryStage_sameSetup (bus : MemoryBus) : SameSetup s (s.memoryStage bus) := by
  obtain ⟨-, hcfg, hplat, hengine, -⟩ := memoryLanes_keeps s.exmem.lanes s bus
  exact ⟨hcfg, hplat, hengine⟩

theorem State.controlHazard_sameSetup : SameSetup s s.controlHazard := by
  obtain ⟨-, hcfg, hplat, hengine, -⟩ := hazardLanes_keeps s.exmem.lanes s
  exact ⟨hcfg, hplat, hengine⟩

theorem State.decodeStage_sameSetup : SameSetup s s.decodeStage := by
  obtain ⟨idex, pc, m, fm, h⟩ := s.decodeStage_keeps
  rw [h]
  exact ⟨rfl, rfl, rfl⟩

theorem State.fetchStage_sameSetup : SameSetup s (s.fetchStage units) := by
  obtain ⟨ifid, pc, h⟩ := s.fetchStage_keeps units
  rw [h]
  exact ⟨rfl, rfl, rfl⟩

theorem State.laterStages_sameSetup : SameSetup s (s.laterStages units) := by
  have hexecute (t : State) : SameSetup t (t.executeStage units) := ⟨rfl, rfl, rfl⟩
  exact ((((s.memoryStage_sameSetup units.bus).trans (hexecute _)).trans (State.controlHazard_sameSetup _)).trans
    (State.decodeStage_sameSetup _)).trans (State.fetchStage_sameSetup _ units)

theorem State.cycle_sameSetup : SameSetup s (s.cycle units) := by
  have hbegin : SameSetup s s.beginCycle := ⟨rfl, rfl, rfl⟩
  have hwb := hbegin.trans s.beginCycle.writebackStage_sameSetup
  by_cases h : s.beginCycle.writebackStage.status = .running
  · rw [State.cycle_running h]
    exact hwb.trans (State.laterStages_sameSetup _ units)
  · rw [State.cycle_ended h]
    exact hwb

theorem State.pipelineTurn_sameSetup : SameSetup s (s.pipelineTurn units) := by
  unfold State.pipelineTurn
  split_ifs
  · exact s.cycle_sameSetup units
  · exact ⟨rfl, rfl, rfl⟩

end Setup

theorem State.finishRecord_sameMachine (s : State) (d : Decoded) (v : Word) : SameMachine s (s.finishRecord d v) := by
  rw [State.finishRecord_eq]
  exact ⟨rfl, rfl, rfl, rfl, rfl, rfl, rfl, rfl, rfl, rfl, rfl, rfl⟩

/-- A step of the sequential reference touches registers, pc, memory, the output stream and the status only. -/
theorem State.recordStep_sameMachine (s : State) (d : Decoded) : SameMachine s (s.recordStep d) := by
  have hraise (e : RunError) : SameMachine s (s.raise e) :=
    ⟨rfl, rfl, rfl, rfl, rfl, rfl, rfl, rfl, rfl, rfl, rfl, rfl⟩
  obtain ⟨h1, h2, h3, h4, h5, h6, h7, h8, h9, h10, h11, h12⟩ := s.hostCall_sameMachine s.pc
  unfold State.recordStep
  dsimp only
  split_ifs
  · exact s.finishRecord_sameMachine d _
  · exact hraise _
  · exact ⟨rfl, rfl, rfl, rfl, rfl, rfl, rfl, rfl, rfl, rfl, rfl, rfl⟩
  · exact hraise _
  · exact ⟨rfl, rfl, rfl, rfl, rfl, rfl, rfl, rfl, rfl, rfl, rfl, rfl⟩
  · exact ⟨h1, h2, h3, h4, h5, h6, h7, h8, h9, h10, h11, h12⟩
  · exact s.hostCall_sameMachine s.pc
  · exact s.finishRecord_sameMachine d _

theorem State.referenceStepWith_sameMachine (s : State) : SameMachine s (s.referenceStepWith .reference) := by
  unfold State.referenceStepWith
  split
  · exact ⟨rfl, rfl, rfl, rfl, rfl, rfl, rfl, rfl, rfl, rfl, rfl, rfl⟩
  · split
    · exact ⟨rfl, rfl, rfl, rfl, rfl, rfl, rfl, rfl, rfl, rfl, rfl, rfl⟩
    · exact s.recordStep_sameMachine _

theorem State.sameMachine_of_referenceStep {s t : State} (h : s.referenceStep = .next t) : SameMachine s t := by
  rw [s.referenceStep_eq] at h
  injection h with h
  exact h ▸ s.referenceStepWith_sameMachine

/-- Settles O37. -/
theorem configurationIsNeverWritten : Obligations.ConfigurationIsNeverWritten := by
  intro s t h
  have hsame : SameSetup s t := by
    obtain ⟨-, ⟨-, rfl⟩ | ⟨-, -, rfl⟩ | ⟨-, -, h⟩⟩ := step_cases h
    · exact ⟨rfl, rfl, rfl⟩
    · exact s.pipelineTurn_sameSetup _
    · exact (State.sameMachine_of_referenceStep h).sameSetup
  exact ⟨hsame.cfg, hsame.plat, hsame.engine⟩

/-! ## The metrics, stage by stage -/

/-- Nothing is in flight behind Writeback. -/
def State.Drained (s : State) : Prop :=
  AllBubbles s.exmem.lanes ∧ AllBubbles s.idex.lanes ∧ AllBubbles s.ifid.lanes

/-- What Writeback of a list of lanes does behind itself: nothing, or a flush that drains the pipeline. -/
def WritebackBehind (s t : State) (flushes : Nat) : Prop :=
  (flushes = 0 ∧ t.exmem = s.exmem ∧ t.idex = s.idex ∧ t.ifid = s.ifid) ∨
    (flushes = 1 ∧ t.exmem = s.exmem.cleared ∧ t.idex = s.idex.cleared ∧ t.ifid = s.ifid.cleared)

theorem retireLanes_effect (l : Lanes) (s : State) :
    ∃ k j f, j ≤ k ∧ k ≤ l.length ∧ WritebackBehind s (retireLanes l s) f ∧
      (retireLanes l s).metrics =
        { s.metrics with
          isaRetired := s.metrics.isaRetired + k
          committed := s.metrics.committed + j
          flushes := s.metrics.flushes + f } := by
  induction l generalizing s with
  | nil => exact ⟨0, 0, 0, le_rfl, le_rfl, .inl ⟨rfl, rfl, rfl, rfl⟩, rfl⟩
  | cons slot rest ih =>
    cases slot with
    | none =>
      obtain ⟨k, j, f, hjk, hk, hb, hm⟩ := ih s
      exact ⟨k, j, f, hjk, hk.trans (Nat.le_succ _), hb, hm⟩
    | some u =>
      obtain ⟨i, hi, hcommitted⟩ : ∃ i, i ≤ 1 ∧
          (if u.fusedPrev then s.metrics.committed else s.metrics.committed + 1) = s.metrics.committed + i := by
        split_ifs
        · exact ⟨0, by omega, rfl⟩
        · exact ⟨1, le_rfl, rfl⟩
      obtain ⟨regs, m, hc⟩ := s.commit_eq u
      have hcm : m = { s.metrics with
          isaRetired := s.metrics.isaRetired + 1, committed := s.metrics.committed + i } := by
        rw [← hcommitted, ← s.commit_metrics u, hc]
      rcases retireLanes_cons u rest s with ⟨t, hr, ht⟩ | ⟨t, hr, ht⟩ <;> rw [ht] <;> cases hr
      case inl.commits hf =>
        obtain ⟨k, j, f, hjk, hk, hb, hm⟩ := ih (s.commit u)
        refine ⟨k + 1, j + i, f, by omega, by simpa using hk, ?_, ?_⟩
        · simpa only [WritebackBehind, hc] using hb
        · rw [hm, hc, hcm]
          simp only [Metrics.mk.injEq, true_and, and_true]
          omega
      case inr.raises e hf => exact ⟨0, 0, 0, le_rfl, by simp, .inl ⟨rfl, rfl, rfl, rfl⟩, rfl⟩
      case inr.ends hf st hst =>
        exact ⟨1, i, 0, hi, by simp, by rw [hc]; exact .inl ⟨rfl, rfl, rfl, rfl⟩, by rw [hc, hcm]; rfl⟩
      case inr.flushes hf =>
        exact ⟨1, i, 1, hi, by simp, by rw [hc]; exact .inr ⟨rfl, rfl, rfl, rfl⟩, by rw [hc, hcm]; rfl⟩
      case inr.continues hf d hd ho hv =>
        exact ⟨1, i, 1, hi, by simp, by rw [hc]; exact .inr ⟨rfl, rfl, rfl, rfl⟩, by rw [hc, hcm]; rfl⟩
      case inr.exits hf d hd ho hv =>
        exact ⟨1, i, 0, hi, by simp, by rw [hc]; exact .inl ⟨rfl, rfl, rfl, rfl⟩, by rw [hc, hcm]; rfl⟩

/-- What a pass of the Memory stage does to the state: memory, and at most one store-snoop flush. -/
theorem MemoryPass.effect {bus : MemoryBus} {l l' : Lanes} {s t : State} (h : MemoryPass bus l s l' t) :
    (∃ mem, t = { s with mem := mem }) ∨ ∃ mem u, some u ∈ l ∧ t = ({ s with mem := mem } : State).snoopFlush u := by
  induction h with
  | nil s => exact .inl ⟨s.mem, rfl⟩
  | bubble _ ih | copy u _ _ ih | load u _ _ _ _ ih =>
    exact ih.imp_right fun ⟨mem, v, hv, ht⟩ => ⟨mem, v, List.mem_cons_of_mem _ hv, ht⟩
  | @fault rest s u => exact .inl ⟨s.mem, rfl⟩
  | store u _ _ _ _ _ ih =>
    rcases ih with ⟨mem, rfl⟩ | ⟨mem, v, hv, rfl⟩
    · exact .inl ⟨mem, rfl⟩
    · exact .inr ⟨mem, v, List.mem_cons_of_mem _ hv, rfl⟩
  | snoop u => exact .inr ⟨_, u, List.mem_cons_self, rfl⟩

theorem MemoryPass.of_allBubbles {bus : MemoryBus} {l l' : Lanes} {s t : State} (h : MemoryPass bus l s l' t)
    (hl : AllBubbles l) : t = s := by
  induction h with
  | nil => rfl
  | bubble _ ih => exact ih fun q hq => hl q (List.mem_cons_of_mem _ hq)
  | copy | load | fault | store | snoop => cases hl _ List.mem_cons_self

theorem State.memoryStage_effect (s : State) (bus : MemoryBus) :
    ∃ f, f ≤ 1 ∧ (s.memoryStage bus).metrics = { s.metrics with flushes := s.metrics.flushes + f } ∧
      (f = 1 → AllBubbles (s.memoryStage bus).idex.lanes ∧ AllBubbles (s.memoryStage bus).ifid.lanes) ∧
      (s.memoryStage bus).idex.lanes.length = s.idex.lanes.length ∧
      (s.memoryStage bus).fetchMode = s.fetchMode ∧
      (s.Drained → f = 0 ∧ (s.memoryStage bus).Drained) := by
  have hpass := memoryLanes_pass bus s.exmem.lanes s
  have hex := s.memoryStage_exmem bus
  have hdrained : s.Drained → (memoryLanes s.exmem.lanes s bus).2 = s := fun h => hpass.of_allBubbles h.1
  rcases hpass.effect with ⟨mem, ht⟩ | ⟨mem, u, hu, ht⟩
  · refine ⟨0, by omega, ?_, by simp, ?_, ?_, fun h => ⟨rfl, ?_⟩⟩
    · simp [State.memoryStage, ht]
    · simp [State.memoryStage, ht]
    · simp [State.memoryStage, ht]
    · rw [State.Drained, hex]
      simp only [State.memoryStage, hdrained h]
      exact h
  · have hno : ¬ s.Drained := fun h => by cases h.1 _ hu
    refine ⟨1, le_rfl, ?_, fun _ => ?_, ?_, ?_, fun h => absurd h hno⟩
    · simp [State.memoryStage, ht]
    · simp only [State.memoryStage, ht]
      exact ⟨allBubbles_bubbles _, allBubbles_bubbles _⟩
    · simp [State.memoryStage, ht]
    · simp [State.memoryStage, ht]

theorem State.executeStage_drained {s : State} (h : AllBubbles s.idex.lanes) (units : Units) :
    AllBubbles (s.executeStage units).exmem.lanes := by
  simpa [State.executeStage, executeLanes_of_allBubbles h] using h

theorem rightBranchesIn_le (l : Lanes) : rightBranchesIn l ≤ branchesIn l :=
  List.countP_mono_left fun slot _ h => by
    cases slot with
    | none => simp at h
    | some u =>
      simp only [Option.any_some, Bool.and_eq_true] at h ⊢
      exact h.1

theorem branchesIn_le (l : Lanes) : branchesIn l ≤ l.length := List.countP_le_length

theorem State.controlHazard_effect (s : State) :
    ∃ f c q, f ≤ 1 ∧ q ≤ c ∧ c ≤ s.exmem.lanes.length ∧
      s.controlHazard.metrics =
        { s.metrics with
          flushes := s.metrics.flushes + f
          mispredicts := s.metrics.mispredicts + f
          condBranches := s.metrics.condBranches + c
          dirCorrect := s.metrics.dirCorrect + q } ∧
      (f = 1 → AllBubbles s.controlHazard.ifid.lanes) ∧
      (AllBubbles s.exmem.lanes → f = 0) ∧
      (AllBubbles s.ifid.lanes → AllBubbles s.controlHazard.ifid.lanes) ∧
      (s.fetchMode ≠ .hold → s.controlHazard.fetchMode ≠ .hold) := by
  rcases s.controlHazard_cases with ⟨-, ht⟩ | ⟨pre, u, rest, hl, -, -, -, ht⟩
  · obtain ⟨c, g, st, hr⟩ := resolvedBy_keeps s.exmem.lanes s
    rw [hr] at ht
    refine ⟨0, _, _, by omega, rightBranchesIn_le s.exmem.lanes, branchesIn_le _, ?_, by simp, fun _ => rfl,
      fun h => ?_, fun h => ?_⟩ <;> rw [ht]
    · rfl
    · exact h
    · exact h
  · obtain ⟨c, g, st, hr⟩ := resolvedBy_keeps (pre ++ [some u]) s
    rw [hr] at ht
    refine ⟨1, _, _, le_rfl, rightBranchesIn_le (pre ++ [some u]), (branchesIn_le _).trans ?_, ?_, fun _ => ?_,
      fun h => ?_, fun h => ?_, fun h => ?_⟩
    · simp [hl]
    · rw [ht]
      rfl
    · rw [ht]
      exact allBubbles_bubbles _
    · cases h (some u) (by simp [hl])
    · rw [ht]
      exact allBubbles_bubbles _
    · rw [ht]
      change (if s.cfg.ebr then s.fetchMode else .bubble) ≠ .hold
      cases s.cfg.ebr
      · exact nofun
      · exact h

theorem State.decodeStage_effect (s : State) :
    ∃ a b, a + b ≤ 1 ∧
      s.decodeStage.metrics =
        { s.metrics with stalls := s.metrics.stalls + a, splits := s.metrics.splits + b } ∧
      (AllBubbles s.ifid.lanes → a = 0 ∧ b = 0) ∧
      (a = 0 → s.fetchMode ≠ .hold → s.decodeStage.fetchMode ≠ .hold) := by
  by_cases hb : AllBubbles s.ifid.lanes
  · rw [State.decodeStage_of_allBubbles hb]
    exact ⟨0, 0, by omega, rfl, fun _ => ⟨rfl, rfl⟩, fun _ h => h⟩
  · rcases s.decodeStage_cases with ⟨-, ht⟩ | ⟨ops, -, ht⟩
    · rw [ht]
      exact ⟨1, 0, by omega, rfl, fun h => absurd h hb, by simp⟩
    · rcases s.issue_cases ops with hi | ⟨u, -, hi⟩ <;> rw [ht, hi]
      · exact ⟨0, 0, by omega, rfl, fun _ => ⟨rfl, rfl⟩, fun _ h => h⟩
      · exact ⟨0, 1, by omega, rfl, fun h => absurd h hb, fun _ h => h⟩

/-! ## The metrics over a cycle -/

/-- What the stages behind Writeback count, from a state whose `fetchMode` is not `Hold`: at most one flush, and no stall
or split with it; none of the three when nothing is in flight. -/
theorem State.laterStages_effect (s : State) (units : Units) (hmode : s.fetchMode ≠ .hold) :
    ∃ f p a b c q, f ≤ 1 ∧ p ≤ f ∧ a + b ≤ 1 ∧ q ≤ c ∧ c ≤ s.idex.lanes.length ∧
      (s.laterStages units).metrics =
        { s.metrics with
          stalls := s.metrics.stalls + a
          splits := s.metrics.splits + b
          flushes := s.metrics.flushes + f
          mispredicts := s.metrics.mispredicts + p
          condBranches := s.metrics.condBranches + c
          dirCorrect := s.metrics.dirCorrect + q } ∧
      (f = 1 ∨ s.Drained → a = 0 ∧ b = 0 ∧ (s.laterStages units).fetchMode ≠ .hold) ∧
      (s.Drained → f = 0) := by
  obtain ⟨f, hf, hm, hflush, hlen, hfm, hdrain⟩ := s.memoryStage_effect units.bus
  generalize hM : s.memoryStage units.bus = m at *
  obtain ⟨g, c, q, hg, hq, hc, hm', hgflush, hgnone, hgifid, hgmode⟩ := (m.executeStage units).controlHazard_effect
  generalize hH : (m.executeStage units).controlHazard = v at *
  obtain ⟨a, b, hab, hm'', hnone, hdmode⟩ := v.decodeStage_effect
  obtain ⟨ifid, pc, hfetch⟩ := v.decodeStage.fetchStage_keeps units
  have hlater : s.laterStages units = { v.decodeStage with ifid := ifid, pc := pc } := by
    rw [State.laterStages, hM, hH, hfetch]
  have hfg : f = 1 → g = 0 := fun h => hgnone (State.executeStage_drained (hflush h).1 units)
  have hdg : s.Drained → g = 0 := fun h => hgnone (State.executeStage_drained (hdrain h).2.2.1 units)
  have hempty : f + g = 1 ∨ s.Drained → AllBubbles v.ifid.lanes := by
    rintro (h | h)
    · by_cases h1 : f = 1
      · exact hgifid (hflush h1).2
      · exact hgflush (by omega)
    · exact hgifid (hdrain h).2.2.2
  refine ⟨f + g, g, a, b, c, q, ?_, by omega, hab, hq, ?_, ?_, fun h => ?_, fun h => ?_⟩
  · by_cases h1 : f = 1
    · have := hfg h1
      omega
    · omega
  · rw [executeStage_exmem, Latch.withLanes_lanes, executeLanes_length] at hc
    simpa [hlen] using hc
  · rw [hlater]
    simp only [hm'', hm', State.executeStage_metrics, hm, Nat.add_assoc]
  · obtain ⟨ha, hb⟩ := hnone (hempty h)
    refine ⟨ha, hb, ?_⟩
    rw [hlater]
    exact hdmode ha (hgmode (by simpa [hfm] using hmode))
  · have := hdg h
    have := (hdrain h).1
    omega

/-- What one cycle counts. -/
theorem State.cycle_effect (s : State) (units : Units) :
    ∃ k j f p a b c q, k ≤ s.memwb.lanes.length ∧ j ≤ k ∧ f ≤ 1 ∧ p ≤ f ∧ a + b ≤ 1 ∧ q ≤ c ∧
      c ≤ s.idex.lanes.length ∧
      (s.cycle units).metrics =
        { cycles := s.metrics.cycles + 1
          isaRetired := s.metrics.isaRetired + k
          committed := s.metrics.committed + j
          stalls := s.metrics.stalls + a
          splits := s.metrics.splits + b
          flushes := s.metrics.flushes + f
          mispredicts := s.metrics.mispredicts + p
          condBranches := s.metrics.condBranches + c
          dirCorrect := s.metrics.dirCorrect + q } ∧
      (f = 1 → a = 0 ∧ b = 0 ∧ (s.cycle units).fetchMode ≠ .hold) := by
  obtain ⟨k, j, f, hjk, hk, hb, hm⟩ := retireLanes_effect s.memwb.lanes s.beginCycle
  obtain ⟨-, -, -, -, -, -, hmode, -⟩ := retireLanes_keeps s.memwb.lanes s.beginCycle
  have hw : s.beginCycle.writebackStage = retireLanes s.memwb.lanes s.beginCycle := rfl
  have hrun : (retireLanes s.memwb.lanes s.beginCycle).fetchMode ≠ .hold := by simp [hmode]
  have hf : f ≤ 1 := by rcases hb with ⟨rfl, -⟩ | ⟨rfl, -⟩ <;> omega
  by_cases h : s.beginCycle.writebackStage.status = .running
  · obtain ⟨g, p, a, b, c, q, hg, hp, hab, hq, hc, hm', hflush, hdrained⟩ :=
      (retireLanes s.memwb.lanes s.beginCycle).laterStages_effect units hrun
    have hdrain : f = 1 → (retireLanes s.memwb.lanes s.beginCycle).Drained := fun h1 => by
      obtain ⟨-, hex, hid, hif⟩ := hb.resolve_left (by omega)
      rw [State.Drained, hex, hid, hif]
      exact ⟨allBubbles_cleared _, allBubbles_cleared _, allBubbles_cleared _⟩
    have hlen : (retireLanes s.memwb.lanes s.beginCycle).idex.lanes.length = s.idex.lanes.length := by
      rcases hb with ⟨-, -, hid, -⟩ | ⟨-, -, hid, -⟩ <;> simp [hid]
    rw [State.cycle_running h, hw]
    refine ⟨k, j, f + g, p, a, b, c, q, hk, hjk, ?_, by omega, hab, hq, hlen ▸ hc, ?_, fun h1 => hflush ?_⟩
    · by_cases h1 : f = 1
      · have := hdrained (hdrain h1)
        omega
      · omega
    · simp only [hm', hm, State.beginCycle_metrics, Nat.add_assoc]
    · by_cases hf1 : f = 1
      · exact .inr (hdrain hf1)
      · exact .inl (by omega)
  · rw [State.cycle_ended h, hw]
    exact ⟨k, j, f, 0, 0, 0, 0, 0, hk, hjk, hf, by omega, by omega, by omega, by omega,
      by simp [hm], fun _ => ⟨rfl, rfl, hrun⟩⟩

/-- Settles O40. -/
theorem atMostOneFlushPerCycle : Obligations.AtMostOneFlushPerCycle := by
  intro units s t
  obtain ⟨k, j, f, p, a, b, c, q, -, -, hf, hp, -, -, -, hm, hflush⟩ := s.cycle_effect units
  have hm : t.metrics = _ := hm
  simp only [hm]
  refine ⟨by omega, fun h => ?_, fun h => by omega⟩
  obtain ⟨rfl, rfl, hmode⟩ := hflush (by omega)
  exact ⟨rfl, rfl, hmode⟩

/-- Settles O38. -/
theorem metricsAreMonotonic : Obligations.MetricsAreMonotonic := by
  intro s t h runsCycle
  by_cases hrun : runsCycle
  · obtain ⟨he, hs, hbudget⟩ := hrun
    have ht : t = s.cycle := by
      obtain ⟨-, ⟨hno, -⟩ | ⟨-, -, ht⟩ | ⟨-, hno, -⟩⟩ := step_cases h
      · exact absurd hs hno
      · rw [ht, State.pipelineTurn, if_pos hbudget]
      · rw [he] at hno
        cases hno
    obtain ⟨k, j, f, p, a, b, c, q, hk, hj, hf, hp, hab, hq, hc, hm, -⟩ := s.cycle_effect .reference
    rw [ht, hm]
    exact ⟨fun _ => rfl, fun hno => absurd ⟨he, hs, hbudget⟩ hno, by dsimp only; omega⟩
  · have hm : t.metrics = s.metrics := by
      obtain ⟨-, ⟨-, rfl⟩ | ⟨hs, he, rfl⟩ | ⟨-, -, ht⟩⟩ := step_cases h
      · rfl
      · rw [State.pipelineTurn, if_neg fun hb => hrun ⟨he, hs, hb⟩]
        rfl
      · exact (State.sameMachine_of_referenceStep ht).metrics
    rw [hm]
    exact ⟨fun h => absurd h hrun, fun _ => rfl, by omega⟩

/-! ## The end of a run -/

/-- Writeback never sets `NotHalted`: only the run loop does (R72). -/
theorem retireLanes_status (l : Lanes) (s : State) (h : s.status ≠ .notHalted) :
    (retireLanes l s).status ≠ .notHalted := by
  induction l generalizing s with
  | nil => exact h
  | cons slot rest ih =>
    cases slot with
    | none => exact ih s h
    | some u =>
      obtain ⟨regs, m, hc⟩ := s.commit_eq u
      have hcommit : (s.commit u).status ≠ .notHalted := by rwa [hc]
      rcases retireLanes_cons u rest s with ⟨t, hr, ht⟩ | ⟨t, hr, ht⟩ <;> rw [ht] <;> cases hr
      case inl.commits hf => exact ih _ hcommit
      case inr.raises e hf => simp
      case inr.ends hf st hst => exact hst.2
      case inr.flushes hf => simpa using hcommit
      case inr.continues hf d hd ho hv => simpa using hcommit
      case inr.exits hf d hd ho hv => simp

theorem State.laterStages_status (s : State) (units : Units) : (s.laterStages units).status = s.status := by
  obtain ⟨ifid, pc, hf⟩ := ((s.memoryStage units.bus).executeStage units).controlHazard.decodeStage.fetchStage_keeps units
  obtain ⟨idex, pc', m, fm, hd⟩ := ((s.memoryStage units.bus).executeStage units).controlHazard.decodeStage_keeps
  obtain ⟨-, -, -, -, -, -, -, hh, -⟩ := hazardLanes_keeps ((s.memoryStage units.bus).executeStage units).exmem.lanes
    ((s.memoryStage units.bus).executeStage units)
  obtain ⟨-, -, -, -, -, -, hm, -⟩ := memoryLanes_keeps s.exmem.lanes s units.bus
  rw [State.laterStages, hf, hd]
  exact hh.trans hm

theorem State.cycle_status {s : State} (h : s.status ≠ .notHalted) (units : Units) :
    (s.cycle units).status ≠ .notHalted := by
  have hw : s.beginCycle.writebackStage.status ≠ .notHalted := retireLanes_status _ _ h
  by_cases hr : s.beginCycle.writebackStage.status = .running
  · rw [State.cycle_running hr, State.laterStages_status]
    exact hw
  · rw [State.cycle_ended hr]
    exact hw

theorem State.cycle_cycles (s : State) (units : Units) : (s.cycle units).metrics.cycles = s.metrics.cycles + 1 := by
  obtain ⟨k, j, f, p, a, b, c, q, -, -, -, -, -, -, -, hm, -⟩ := s.cycle_effect units
  rw [hm]

/-- A state of a run within its budget: `NotHalted` only when the budget is used up. -/
def State.WithinBudget (s : State) : Prop :=
  s.metrics.cycles ≤ s.cfg.budget ∧ (s.status = .notHalted → s.metrics.cycles = s.cfg.budget)

theorem State.pipelineTurn_withinBudget {s : State} (h : s.WithinBudget) (hs : s.status = .running) (units : Units) :
    (s.pipelineTurn units).WithinBudget := by
  obtain ⟨hle, -⟩ := h
  have hcfg := (s.pipelineTurn_sameSetup units).cfg
  rw [State.WithinBudget, hcfg]
  unfold State.pipelineTurn
  split_ifs with hb
  · rw [State.cycle_cycles]
    exact ⟨hb, fun hno => absurd hno (State.cycle_status (by simp [hs]) units)⟩
  · exact ⟨hle, fun _ => le_antisymm hle (Nat.le_of_not_lt hb)⟩

/-- Enough turns of the run loop end the run, within its budget. -/
theorem State.pipelineTurns_ends {n : Nat} {s : State} (h : s.WithinBudget)
    (hn : s.status = .running → s.cfg.budget - s.metrics.cycles + 1 ≤ n) (units : Units) :
    (State.pipelineTurns n s units).status ≠ .running ∧ (State.pipelineTurns n s units).WithinBudget ∧
      (State.pipelineTurns n s units).cfg = s.cfg := by
  induction n generalizing s with
  | zero => exact ⟨fun hs => by have := hn hs; omega, h, rfl⟩
  | succ n ih =>
    unfold State.pipelineTurns
    split_ifs with hs
    · have hcfg := (s.pipelineTurn_sameSetup units).cfg
      have hnext := ih (State.pipelineTurn_withinBudget h hs units) fun hs' => by
        have := hn hs
        rw [hcfg]
        unfold State.pipelineTurn at hs' ⊢
        split_ifs at hs' ⊢ with hb
        · rw [State.cycle_cycles]
          omega
        · cases hs'
      rwa [hcfg] at hnext
    · exact ⟨hs, h, rfl⟩

/-- Settles O33. -/
theorem theBudgetEndsEveryRun : Obligations.TheBudgetEndsEveryRun := by
  refine ⟨fun s hs hle => ?_, fun s hc hs => by simp [step, hc, hs]⟩
  have hbudget : s.WithinBudget := ⟨hle, fun h => by simp [hs] at h⟩
  obtain ⟨hend, ⟨hle', hno⟩, hcfg⟩ := State.pipelineTurns_ends hbudget (fun _ => le_rfl) .reference
  rw [hcfg] at hle' hno
  exact ⟨hend, hle', hno⟩

end Sys2Proof.Machine

/-!
PROOF. A launch whose entry is outside the memory region (spec/70_reset_and_hazards.md R261, R262): the fault slot of the
entry goes through the stages, one a cycle, and raises its FetchFault in cycle 5.
-/

namespace Sys2Proof.Machine

/-! ## The lanes that hold the fault slot of an address, or nothing -/

/-- `n` lanes with the fault slot of `a` in lane 0, or `n` bubbles. -/
def slotLanes (n : Nat) (a : Word) : Bool → Lanes
  | true => packLanes n [faultSlot a]
  | false => bubbles n

theorem slotLanes_true (n : Nat) (a : Word) : slotLanes (n + 1) a true = some (faultSlot a) :: bubbles n := rfl

theorem memoryLanes_bubbles (n : Nat) (s : State) (bus : MemoryBus) : memoryLanes (bubbles n) s bus = (bubbles n, s) := by
  induction n with
  | zero => rfl
  | succ n ih => rw [bubbles_succ, memoryLanes_bubble, ih]

theorem hazardLanes_bubbles (n : Nat) (s : State) : hazardLanes (bubbles n) s = (bubbles n, s) := by
  induction n with
  | zero => rfl
  | succ n ih => rw [bubbles_succ, hazardLanes, ih]

theorem retireLanes_bubbles (n : Nat) (s : State) : retireLanes (bubbles n) s = s := by
  induction n with
  | zero => rfl
  | succ n ih => rw [bubbles_succ, retireLanes_bubble, ih]

section SlotLanes

variable (n : Nat) (a : Word) (b : Bool) (s : State)

theorem memoryLanes_slotLanes : memoryLanes (slotLanes (n + 1) a b) s = (slotLanes (n + 1) a b, s) := by
  cases b with
  | true => rw [slotLanes_true, memoryLanes_copied (by simp [faultSlot]), memoryLanes_bubbles]
  | false => exact memoryLanes_bubbles _ s _

theorem executeLanes_slotLanes (units : Units) :
    executeLanes [] (slotLanes (n + 1) a b) units = slotLanes (n + 1) a b := by
  cases b with
  | true =>
    rw [slotLanes_true, executeLanes, executeLanes_of_allBubbles (allBubbles_bubbles n), Option.map_some,
      executeOp_fault (by simp [faultSlot])]
    rfl
  | false => exact executeLanes_of_allBubbles (allBubbles_bubbles _) units

theorem hazardLanes_slotLanes : hazardLanes (slotLanes (n + 1) a b) s = (slotLanes (n + 1) a b, s) := by
  cases b with
  | true => rw [slotLanes_true, hazardLanes_of_fault (by simp [faultSlot]), hazardLanes_bubbles]
  | false => exact hazardLanes_bubbles _ s

/-- Decode issues the fault slot as it is. -/
theorem State.decodeStage_slotLanes {s : State} {stalled : Bool} (hw : s.cfg.width = n + 1)
    (h : s.ifid = ⟨slotLanes (n + 1) a b, stalled⟩) :
    s.decodeStage = { s with idex := s.idex.withLanes (slotLanes (n + 1) a b) } := by
  cases b with
  | true =>
    have hplan : planLanes s.cfg [] false s.ifid.lanes = [⟨faultSlot a, .outside, .outside⟩] := by
      rw [h, slotLanes_true]
      cases n <;> simp [planLanes, laneSource, MicroOp.readsA, MicroOp.readsB, faultSlot, blankOp]
    have hops : s.resolveAll (planLanes s.cfg [] false s.ifid.lanes) = some [faultSlot a] := by
      rw [hplan]
      rfl
    have hissue : s.decodeStage = s.issue [faultSlot a] := by
      unfold State.decodeStage
      rw [hops]
    rw [hissue]
    rcases s.issue_cases [faultSlot a] with hi | ⟨u, hu, hi⟩
    · rw [hi, hw]
      rfl
    · have hnone : ∀ slot, s.ifid.lanes[1]? = some slot → slot = none := fun slot hs => by
        rw [h, slotLanes_true] at hs
        exact allBubbles_bubbles n slot (List.mem_of_getElem? (by simpa using hs))
      obtain ⟨hpc, hm⟩ := State.issue_whole (us := [faultSlot a]) hnone
      obtain ⟨pc, m, hk⟩ := s.issue_keeps [faultSlot a]
      rw [hk] at hpc hm ⊢
      rw [← hpc, ← hm, hw]
      rfl
  | false =>
    have hb : AllBubbles s.ifid.lanes := by
      rw [h]
      exact allBubbles_bubbles _
    rw [State.decodeStage_of_allBubbles hb, hw]
    rfl

end SlotLanes

/-! ## The cycles -/

/-- `s` with the fault slot of `a` in some of the latches of `n` lanes, and nothing else in flight, in cycle `k`. -/
def State.inFlight (s : State) (n : Nat) (a : Word) (ifid idex exmem memwb : Bool) (k : Nat) : State :=
  { s with
    ifid := ⟨slotLanes n a ifid, false⟩
    idex := ⟨slotLanes n a idex, false⟩
    exmem := ⟨slotLanes n a exmem, false⟩
    memwb := ⟨slotLanes n a memwb, false⟩
    metrics := { s.metrics with cycles := k }
    fetchMode := .run }

/-- The fault slot in MEMWB ends the run. -/
theorem State.cycle_inFlight_end (s : State) (n : Nat) (a : Word) (b1 b2 b3 : Bool) (k : Nat) :
    (s.inFlight (n + 1) a b1 b2 b3 true k).cycle = (s.inFlight (n + 1) a b1 b2 b3 true (k + 1)).raise (.fetchFault a) :=
  State.cycle_of_pending_error (pre := []) rfl (by simp [PlainLanes]) rfl .reference

section Cycles

variable {s : State} {n : Nat} {a : Word} (hw : s.cfg.width = n + 1) (hpc : s.pc = a) (hout : ¬ InRegion s a 2)

include hw hpc hout

/-- Fetch gives the fault slot again and again. -/
theorem State.fetchStage_outside (hmode : s.fetchMode = .run) :
    s.fetchStage = { s with ifid := ⟨slotLanes (n + 1) a true, false⟩ } := by
  have hrange : s.inRange a 2 = false := State.inRange_eq_false hout
  have hfetch : fetchLanes s (Config.fetchBytes s.cfg) (n + 1) a 0 = ([faultSlot a], a) := by
    simp [fetchLanes, hrange]
  rw [State.fetchStage_run hmode, State.fetchRun, hw, hpc, hfetch, ← hpc]
  rfl

variable (hrun : s.status = .running)

include hrun

/-- A cycle moves the fault slots on by one stage. -/
theorem State.cycle_inFlight (b1 b2 b3 : Bool) (k : Nat) :
    (s.inFlight (n + 1) a b1 b2 b3 false k).cycle = s.inFlight (n + 1) a true b1 b2 b3 (k + 1) := by
  have hwb : (s.inFlight (n + 1) a b1 b2 b3 false k).beginCycle.writebackStage =
      s.inFlight (n + 1) a b1 b2 b3 false (k + 1) := retireLanes_bubbles _ _
  have hmem : (s.inFlight (n + 1) a b1 b2 b3 false (k + 1)).memoryStage =
      s.inFlight (n + 1) a b1 b2 b3 b3 (k + 1) := by
    simp only [State.memoryStage, State.inFlight, memoryLanes_slotLanes, Latch.withLanes]
  have hex : (s.inFlight (n + 1) a b1 b2 b3 b3 (k + 1)).executeStage = s.inFlight (n + 1) a b1 b2 b2 b3 (k + 1) := by
    simp only [State.executeStage, State.inFlight, executeLanes_slotLanes, Latch.withLanes]
  have hhz : (s.inFlight (n + 1) a b1 b2 b2 b3 (k + 1)).controlHazard = s.inFlight (n + 1) a b1 b2 b2 b3 (k + 1) := by
    simp only [State.controlHazard, State.inFlight, hazardLanes_slotLanes, Latch.withLanes]
  have hdec : (s.inFlight (n + 1) a b1 b2 b2 b3 (k + 1)).decodeStage = s.inFlight (n + 1) a b1 b1 b2 b3 (k + 1) :=
    State.decodeStage_slotLanes n a b1 hw rfl
  have hfet : (s.inFlight (n + 1) a b1 b1 b2 b3 (k + 1)).fetchStage = s.inFlight (n + 1) a true b1 b2 b3 (k + 1) :=
    State.fetchStage_outside hw hpc hout rfl
  rw [State.cycle_running (by rw [hwb]; exact hrun), hwb, State.laterStages, Units.reference_bus, hmem, hex, hhz, hdec,
    hfet]

/-- Five cycles from empty latches: the slot is fetched, issued, executed, passed through Memory, and raised. -/
theorem State.pipelineTurns_inFlight (hbudget : 5 ≤ s.cfg.budget) (r : Nat) :
    State.pipelineTurns (r + 5) (s.inFlight (n + 1) a false false false false 0) =
      (s.inFlight (n + 1) a true true true true 5).raise (.fetchFault a) := by
  have hturn (b1 b2 b3 : Bool) (m k : Nat) (hk : k < 5) :
      State.pipelineTurns (m + 1) (s.inFlight (n + 1) a b1 b2 b3 false k) =
        State.pipelineTurns m (s.inFlight (n + 1) a true b1 b2 b3 (k + 1)) := by
    have hleft : (s.inFlight (n + 1) a b1 b2 b3 false k).metrics.cycles <
        (s.inFlight (n + 1) a b1 b2 b3 false k).cfg.budget := hk.trans_le hbudget
    have hgoes : (s.inFlight (n + 1) a b1 b2 b3 false k).status = .running := hrun
    rw [State.pipelineTurns, if_pos hgoes, State.pipelineTurn, if_pos hleft, State.cycle_inFlight hw hpc hout hrun]
  have hend : State.pipelineTurns (r + 1) (s.inFlight (n + 1) a true true true true 4) =
      (s.inFlight (n + 1) a true true true true 5).raise (.fetchFault a) := by
    have hleft : (s.inFlight (n + 1) a true true true true 4).metrics.cycles <
        (s.inFlight (n + 1) a true true true true 4).cfg.budget := hbudget
    have hgoes : (s.inFlight (n + 1) a true true true true 4).status = .running := hrun
    rw [State.pipelineTurns, if_pos hgoes, State.pipelineTurn, if_pos hleft,
      State.cycle_inFlight_end]
    cases r with
    | zero => rfl
    | succ r => rw [State.pipelineTurns, if_neg nofun]
  rw [hturn _ _ _ _ 0 (by omega), hturn _ _ _ _ 1 (by omega), hturn _ _ _ _ 2 (by omega), hturn _ _ _ _ 3 (by omega),
    hend]

end Cycles

theorem width_pos_of_valid {c : Config} {p : Platform} (h : configError c p = none) : 1 ≤ c.width ∧ c.width ≤ 32 := by
  by_contra hno
  simp [configError, hno] at h

/-- Settles O58: the launched state has its latches empty. -/
theorem entryOutsideMemoryFaultsInCycleFive : Obligations.EntryOutsideMemoryFaultsInCycleFive := by
  intro c p given image s h hbudget hout
  obtain ⟨hc, rfl⟩ := launch_cases h
  obtain ⟨n, hn⟩ : ∃ n, c.width = n + 1 := ⟨c.width - 1, by have := width_pos_of_valid hc; omega⟩
  obtain ⟨r, hr⟩ : ∃ r, c.budget = r + 5 - 1 := ⟨c.budget - 4, by omega⟩
  generalize hs : State.initial .pipeline c p (launchRegs given) (launchImage p image) = s at *
  have hcfg : s.cfg = c := by rw [← hs]; rfl
  have hplat : s.plat = p := by rw [← hs]; rfl
  have hstart : s = s.inFlight (n + 1) p.entry false false false false 0 := by
    rw [← hs]
    simp only [State.initial, State.inFlight, slotLanes, hn, Latch.empty]
    rfl
  have hrun : s.pipelineRun = (s.inFlight (n + 1) p.entry true true true true 5).raise (.fetchFault p.entry) := by
    have hturns := State.pipelineTurns_inFlight (s := s) (n := n) (a := p.entry) (by rw [hcfg, hn]) (by rw [← hs]; rfl) hout
      (by rw [← hs]; rfl) (by rwa [hcfg]) r
    rw [← hstart] at hturns
    rw [State.pipelineRun, ← hturns, hcfg, hr]
    congr 1
    rw [← hs]
    simp [State.initial, Metrics.zero]
  rw [hrun]
  exact ⟨rfl, rfl, by rw [← hs]; rfl, rfl, rfl, rfl⟩

end Sys2Proof.Machine

/-!
PROOF. Who changes the architectural state in a cycle (spec/10_state.md section 1, spec/40_pipeline_cycle.md R89, R94,
R97): Writeback the registers, and by a host the registers, memory and output; Memory the bytes of its stores.
-/

namespace Sys2Proof.Machine

/-! ## A host's answer -/

/-- A register an answer changes is one it writes, and not x0. -/
theorem State.applyReply_reg_ne {s : State} {a : HostReply} {r : Reg} (h : (s.applyReply a).reg r ≠ s.reg r) :
    r ≠ 0 ∧ ∃ v, (r, v) ∈ a.regWrites := by
  constructor
  · rintro rfl
    exact h (by rw [State.reg_zero, State.reg_zero])
  · by_contra hno
    refine h (readRegs_applyRegWrites_of_not_mem (fun p hp hpr => hno ⟨p.2, ?_⟩) s.regs)
    rwa [← hpr]

/-- In Writeback of the lanes `l` from `s`, an ECALL calls the host in the state `h`, and the answer takes effect. -/
def HostActsIn (l : Lanes) (s h : State) : Prop :=
  (h.hostReply.verdict = .continue ∨ h.hostReply.verdict = .exit) ∧
    ∃ pre u post d, l = pre ++ some u :: post ∧ u.fault = none ∧ u.dec = some d ∧ d.op = .ecall ∧
      h = (retireLanes pre s).commitReg u

theorem HostActsIn.head {s : State} {u : MicroOp} {d : Decoded} (hf : u.fault = none) (hd : u.dec = some d)
    (ho : d.op = .ecall)
    (hv : (s.commitReg u).hostReply.verdict = .continue ∨ (s.commitReg u).hostReply.verdict = .exit) (rest : Lanes) :
    HostActsIn (some u :: rest) s (s.commitReg u) := ⟨hv, [], u, rest, d, rfl, hf, hd, ho, rfl⟩

/-- A slot that Writeback goes on from moves the call behind it. -/
theorem HostActsIn.cons {s t h : State} {slot : Option MicroOp} {rest : Lanes} (ha : HostActsIn rest t h)
    (hstep : ∀ pre, retireLanes (slot :: pre) s = retireLanes pre t) : HostActsIn (slot :: rest) s h := by
  obtain ⟨hv, pre, u, post, d, hl, hf, hd, ho, hh⟩ := ha
  exact ⟨hv, slot :: pre, u, post, d, by rw [hl]; rfl, hf, hd, ho, by rw [hstep, hh]⟩

/-! ## Writeback -/

/-- What Writeback of the lanes `l` from `s` can have changed in `t`. -/
structure WritebackChanges (l : Lanes) (s t : State) : Prop where
  reg : ∀ r : Reg, t.reg r ≠ s.reg r → (∃ u, some u ∈ l ∧ u.fault = none ∧ u.writes r) ∨
    (r ≠ 0 ∧ ∃ h v, HostActsIn l s h ∧ (r, v) ∈ h.hostReply.regWrites)
  mem : ∀ a : Nat, t.mem.byte a ≠ s.mem.byte a → s.plat.memBase ≤ a ∧ a < s.plat.memBase + s.plat.memSize ∧
    ∃ h v, HostActsIn l s h ∧ (a, v) ∈ h.hostReply.memWrites
  out : t.out ≠ s.out → ∃ h, HostActsIn l s h ∧ t.out = s.out ++ h.hostReply.appended

/-- The register a commit changes is one the micro-op writes. -/
theorem State.writes_of_commit_reg_ne {s : State} {u : MicroOp} {r : Reg} (h : (s.commit u).reg r ≠ s.reg r) :
    u.writes r := by
  by_contra hw
  exact h (State.commitReg_reg_of_not_writes hw s)

section Changes

variable {s t : State} {u : MicroOp} {rest : Lanes}

/-- Only the commit of the micro-op, or nothing. -/
theorem WritebackChanges.of_commit (hf : u.fault = none) (hregs : t.regs = (s.commit u).regs) (hmem : t.mem = s.mem)
    (hout : t.out = s.out) : WritebackChanges (some u :: rest) s t where
  reg r hr := .inl ⟨u, List.mem_cons_self, hf, State.writes_of_commit_reg_ne (State.reg_congr hregs r ▸ hr)⟩
  mem a ha := absurd (by rw [hmem]) ha
  out ho := absurd hout ho

theorem WritebackChanges.of_nothing (hregs : t.regs = s.regs) (hmem : t.mem = s.mem) (hout : t.out = s.out)
    (l : Lanes) : WritebackChanges l s t where
  reg r hr := absurd (State.reg_congr hregs r) hr
  mem a ha := absurd (by rw [hmem]) ha
  out ho := absurd hout ho

/-- The commit of an ECALL and the host's answer. -/
theorem WritebackChanges.of_reply (hf : u.fault = none) (hacts : HostActsIn (some u :: rest) s (s.commitReg u))
    (hregs : t.regs = ((s.commitReg u).applyReply (s.commitReg u).hostReply).regs)
    (hmem : t.mem = ((s.commitReg u).applyReply (s.commitReg u).hostReply).mem)
    (hout : t.out = ((s.commitReg u).applyReply (s.commitReg u).hostReply).out) :
    WritebackChanges (some u :: rest) s t := by
  obtain ⟨regs, hc⟩ := s.commitReg_eq u
  have hmem' : (s.commitReg u).mem = s.mem := by rw [hc]
  have hplat : (s.commitReg u).plat = s.plat := by rw [hc]
  have hout' : (s.commitReg u).out = s.out := by rw [hc]
  refine ⟨fun r hr => ?_, fun a ha => ?_, fun _ => ⟨_, hacts, by rw [hout, State.applyReply_out, hout']⟩⟩
  · rw [State.reg_congr hregs] at hr
    by_cases hcr : (s.commitReg u).reg r = s.reg r
    · rw [← hcr] at hr
      obtain ⟨h0, v, hv⟩ := State.applyReply_reg_ne hr
      exact .inr ⟨h0, _, v, hacts, hv⟩
    · exact .inl ⟨u, List.mem_cons_self, hf, State.writes_of_commit_reg_ne hcr⟩
  · rw [hmem, State.applyReply_mem, hmem', hplat] at ha
    obtain ⟨h1, h2, v, hv⟩ := byte_applyMemWrites ha
    exact ⟨h1, h2, _, v, hacts, hv⟩

/-- Behind a slot that Writeback goes on from, with what that slot committed. -/
theorem WritebackChanges.cons {m : State} {slot : Option MicroOp} (h : WritebackChanges rest m t)
    (hstep : ∀ pre, retireLanes (slot :: pre) s = retireLanes pre m)
    (hreg : ∀ r, m.reg r ≠ s.reg r → ∃ u, slot = some u ∧ u.fault = none ∧ u.writes r) (hmem : m.mem = s.mem)
    (hout : m.out = s.out) (hplat : m.plat = s.plat) : WritebackChanges (slot :: rest) s t := by
  refine ⟨fun r hr => ?_, fun a ha => ?_, fun ho => ?_⟩
  · by_cases hm : m.reg r = s.reg r
    · rcases h.reg r (hm ▸ hr) with ⟨v, hv, hw⟩ | ⟨h0, k, v, hacts, hv⟩
      · exact .inl ⟨v, List.mem_cons_of_mem _ hv, hw⟩
      · exact .inr ⟨h0, k, v, hacts.cons hstep, hv⟩
    · obtain ⟨u, rfl, hf, hw⟩ := hreg r hm
      exact .inl ⟨u, List.mem_cons_self, hf, hw⟩
  · obtain ⟨h1, h2, k, v, hacts, hv⟩ := h.mem a (hmem ▸ ha)
    rw [hplat] at h1 h2
    exact ⟨h1, h2, k, v, hacts.cons hstep, hv⟩
  · obtain ⟨k, hacts, ht⟩ := h.out (hout ▸ ho)
    exact ⟨k, hacts.cons hstep, hout ▸ ht⟩

end Changes

theorem retireLanes_changes (l : Lanes) (s : State) : WritebackChanges l s (retireLanes l s) := by
  induction l generalizing s with
  | nil => exact .of_nothing rfl rfl rfl []
  | cons slot rest ih =>
    cases slot with
    | none => exact (ih s).cons (fun _ => rfl) (fun r hr => absurd rfl hr) rfl rfl rfl
    | some u =>
      obtain ⟨regs, m, hc⟩ := s.commit_eq u
      have h := s.retireOp_retires u
      rcases hr : s.retireOp u with ⟨e, t⟩
      rw [hr] at h
      cases h
      case commits hf =>
        have hstep (pre : Lanes) : retireLanes (some u :: pre) s = retireLanes pre (s.commit u) := by
          simp only [retireLanes, hr]
        rw [hstep]
        refine (ih (s.commit u)).cons hstep (fun r hr => ⟨u, rfl, hf, State.writes_of_commit_reg_ne hr⟩) ?_ ?_ ?_ <;>
          rw [hc]
      all_goals rw [retireLanes_ended hr]
      case raises e hf => exact .of_nothing (s := s) (t := s.raise e) rfl rfl rfl _
      case ends hf st hst => exact .of_commit hf rfl (by rw [hc]; rfl) (by rw [hc]; rfl)
      case flushes hf => exact .of_commit hf rfl (by rw [hc]; rfl) (by rw [hc]; rfl)
      case continues hf d hd ho hv => exact .of_reply hf (.head hf hd ho (.inl hv) rest) rfl rfl rfl
      case exits hf d hd ho hv => exact .of_reply hf (.head hf hd ho (.inr hv) rest) rfl rfl rfl

/-! ## Memory -/

/-- The byte at `a` is one that a fault-free store of the lanes writes, in range. -/
def StoredIn (l : Lanes) (s : State) (a : Nat) : Prop :=
  ∃ u d, some u ∈ l ∧ u.fault = none ∧ u.dec = some d ∧ d.isStore = true ∧ InRegion s u.result d.memBytes ∧
    u.result.toNat ≤ a ∧ a < u.result.toNat + d.memBytes

theorem StoredIn.cons {l : Lanes} {s t : State} {a : Nat} (h : StoredIn l t a) (hplat : t.plat = s.plat)
    (slot : Option MicroOp) : StoredIn (slot :: l) s a := by
  obtain ⟨u, d, hu, hf, hd, hs, hin, ha⟩ := h
  exact ⟨u, d, List.mem_cons_of_mem _ hu, hf, hd, hs, by simpa only [InRegion, hplat] using hin, ha⟩

theorem StoredIn.head {l : Lanes} {s : State} {a : Nat} {u : MicroOp} (hf : u.fault = none)
    (hs : u.flag Decoded.isStore = true) (hr : s.inRange u.result u.memBytes = true)
    (ha : (s.memWrite u.result u.memBytes u.store).mem.byte a ≠ s.mem.byte a) : StoredIn (some u :: l) s a := by
  rcases Option.eq_none_or_eq_some u.dec with hd | ⟨d, hd⟩
  · simp [MicroOp.flag, hd] at hs
  · rw [u.flag_of_some _ d hd] at hs
    rw [MicroOp.memBytes_of_dec hd] at hr ha
    have hbytes : ¬ (a < u.result.toNat ∨ u.result.toNat + d.memBytes ≤ a) := fun hout =>
      ha (s.memWrite_sameBytesOutside u.result d.memBytes u.store a hout)
    exact ⟨u, d, List.mem_cons_self, hf, hd, hs, (s.inRange_iff_inRegion _ _).1 hr, by omega, by omega⟩

theorem MemoryPass.stored {l l' : Lanes} {s t : State} (h : MemoryPass .reference l s l' t) {a : Nat}
    (ha : t.mem.byte a ≠ s.mem.byte a) : StoredIn l s a := by
  induction h with
  | nil | fault => exact absurd rfl ha
  | bubble _ ih | copy _ _ _ ih | load _ _ _ _ _ ih => exact (ih ha).cons rfl _
  | @store rest s l t u hf hs hr _ _ ih =>
    by_cases hw : (s.memWrite u.result u.memBytes u.store).mem.byte a = s.mem.byte a
    · exact (ih (hw ▸ ha)).cons rfl _
    · exact .head hf hs hr hw
  | snoop u hf hs hr => exact .head hf hs hr ha

/-! ## The cycle -/

/-- Behind Writeback only the Memory stage changes the architectural state: it changes memory. -/
theorem State.laterStages_architecture (s : State) :
    s.laterStages.regs = s.regs ∧ s.laterStages.out = s.out ∧ s.laterStages.mem = s.memoryStage.mem := by
  obtain ⟨ifid, pc, hf⟩ := (s.memoryStage.executeStage.controlHazard.decodeStage).fetchStage_keeps .reference
  obtain ⟨idex, pc', m, fm, hd⟩ := s.memoryStage.executeStage.controlHazard.decodeStage_keeps
  obtain ⟨-, -, -, -, hregs, hmem, hout, -⟩ := hazardLanes_keeps s.memoryStage.executeStage.exmem.lanes
    s.memoryStage.executeStage
  obtain ⟨-, -, -, -, hregs', hout', -⟩ := memoryLanes_keeps s.exmem.lanes s .reference
  have hlater : s.laterStages = _ := hf
  rw [hlater, hd]
  exact ⟨hregs.trans hregs', hout.trans hout', hmem⟩

/-- Settles O39: Writeback and the Memory stage, one after the other. -/
theorem whoChangesTheArchitecturalState : Obligations.WhoChangesTheArchitecturalState := by
  intro s t he h
  have hwb : WritebackChanges s.memwb.lanes s.beginCycle s.beginCycle.writebackStage := retireLanes_changes _ _
  have cases : (t.regs = s.regs ∧ t.mem = s.mem ∧ t.out = s.out) ∨ t = s.cycle := by
    obtain ⟨-, ⟨-, rfl⟩ | ⟨-, -, rfl⟩ | ⟨-, hno, -⟩⟩ := step_cases h
    · exact .inl ⟨rfl, rfl, rfl⟩
    · unfold State.pipelineTurn
      split_ifs
      · exact .inr rfl
      · exact .inl ⟨rfl, rfl, rfl⟩
    · rw [he] at hno
      cases hno
  rcases cases with ⟨hregs, hmem, hout⟩ | rfl
  · exact ⟨fun r hr => absurd (State.reg_congr hregs r) hr, fun a ha => absurd (by rw [hmem]) ha,
      fun ho => absurd hout ho⟩
  by_cases hrun : s.beginCycle.writebackStage.status = .running
  · rw [State.cycle_running hrun]
    obtain ⟨hregs, hout, hmem⟩ := s.beginCycle.writebackStage.laterStages_architecture
    refine ⟨fun r hr => hwb.reg r (State.reg_congr hregs r ▸ hr), fun a ha => ?_, fun ho => ?_⟩
    · by_cases hw : s.beginCycle.writebackStage.mem.byte a = s.mem.byte a
      · left
        rw [hmem, ← hw] at ha
        have hstored := (memoryLanes_pass .reference s.beginCycle.writebackStage.exmem.lanes _).stored ha
        obtain ⟨u, d, hu, hf, hd, hs, hin, hbyte⟩ := hstored
        have hplat : s.beginCycle.writebackStage.plat = s.plat := s.beginCycle.writebackStage_sameSetup.plat
        have hmem : some u ∈ s.exmem.lanes := by
          obtain ⟨k, j, f, -, -, hb, -⟩ := retireLanes_effect s.memwb.lanes s.beginCycle
          have hex : s.beginCycle.writebackStage = retireLanes s.memwb.lanes s.beginCycle := rfl
          rw [hex] at hu
          rcases hb with ⟨-, hsame, -⟩ | ⟨-, hcleared, -⟩
          · rwa [hsame] at hu
          · rw [hcleared] at hu
            exact absurd hu (not_mem_bubbles _ u)
        exact ⟨u, d, hmem, hf, hd, hs, by simpa only [InRegion, hplat] using hin, hbyte⟩
      · exact .inr (hwb.mem a hw)
    · obtain ⟨k, hacts, ht⟩ := hwb.out (hout ▸ ho)
      exact ⟨k, hacts, hout.trans ht⟩
  · rw [State.cycle_ended hrun]
    exact ⟨hwb.reg, fun a ha => .inr (hwb.mem a ha), hwb.out⟩

end Sys2Proof.Machine

/-!
PROOF. Even addresses (spec/10_state.md R20) and what holds of every micro-op in a latch (`MicroOp.Ok`): what Fetch makes,
and what each later stage keeps.
-/

namespace Sys2Proof.Machine

/-! ## Even addresses -/

theorem even64_zero : Even64 0 := rfl

theorem even64_add {a b : Word} (ha : Even64 a) (hb : Even64 b) : Even64 (a + b) := by
  unfold Even64 at *
  rw [BitVec.toNat_add]
  omega

theorem even64_len (len : Len) : Even64 len.word := by cases len <;> rfl

theorem even64_jalrTarget (a imm : Word) : Even64 (jalrTarget a imm) := by
  rw [Even64, jalrTarget, toNat_clearBit0]
  omega

theorem even64_of_lowBit {a : Word} (h : a.getLsbD 0 = false) : Even64 a := by
  have := BitVec.getLsbD_eq_getElem (x := a) (i := 0) (by omega)
  rw [BitVec.getLsbD, Nat.testBit_zero] at h
  simpa [Even64] using h

/-- An even immediate stays even when it is sign-extended. -/
theorem even64_sext {n : Nat} {v : BitVec n} (hn : 0 < n) (h : lowZero 1 v = true) : Even64 (sext v) := by
  refine even64_of_lowBit ?_
  rw [lowZero_iff] at h
  have hbit : v.getLsbD 0 = false := by
    have := congrArg (fun b : BitVec 1 => b.getLsbD 0) h
    simpa using this
  rw [sext, BitVec.getLsbD_signExtend, if_pos hn, hbit]
  rfl

/-- The instructions whose target is `pc` plus their immediate. -/
def Op.relative : Op → Bool
  | .jal | .beq | .bne | .blt | .bge | .bltu | .bgeu => true
  | _ => false

theorem recordOf_imm_even {i : Instr} (h : i.wellFormed = true) (hr : (recordOf i).op.relative = true) :
    Even64 (recordOf i).imm := by
  cases i
  case jal | beq | bne | blt | bge | bltu | bgeu | cJ | cBeqz | cBnez => exact even64_sext (by decide) h
  all_goals cases hr

theorem recordOf_relative_of_isBranch (i : Instr) : (recordOf i).isBranch = true → (recordOf i).op.relative = true := by
  cases i <;> exact of_decide_eq_true rfl

/-- The ComputeUnit's target is even, from an even pc and an even immediate where it adds the two. -/
theorem compute_target_even {op : Op} {pc imm : Word} (hpc : Even64 pc) (himm : op.relative = true → Even64 imm)
    (len : Len) (a b : Word) : Even64 (compute op pc len imm a b).target := by
  cases op
  case jal | beq | bne | blt | bge | bltu | bgeu => exact even64_add hpc (himm rfl)
  case jalr => exact even64_jalrTarget a imm
  all_goals exact even64_zero

theorem MicroOp.Ok.nextPc_even {c : Config} {u : MicroOp} (h : u.Ok c) : Even64 u.nextPc :=
  even64_add h.pc (even64_len u.len)

theorem MicroOp.Ok.actualPc_even {c : Config} {u : MicroOp} (h : u.Ok c) : Even64 u.actualPc := by
  unfold MicroOp.actualPc
  split_ifs
  · exact h.target
  · exact h.nextPc_even

/-! ## Micro-ops through the stages -/

section Stages

variable {c : Config} {u : MicroOp}

/-- Decode fills the operands and the mark of a fused pair. -/
theorem MicroOp.Ok.issued (h : u.Ok c) (a b : Source) (f : Bool) :
    MicroOp.Ok c { u with fusedPrev := f, srcA := a, srcB := b } :=
  ⟨h.pc, h.predTarget, h.target, h.predIdx, h.dec, h.faultOwn⟩

theorem MicroOp.Ok.dec_of_clean (h : u.Ok c) (hf : u.fault = none) : u.dec ≠ none := by
  have hown := h.faultOwn
  unfold MicroOp.faultOwn at hown
  rwa [hf] at hown

theorem MicroOp.faultOwn_of_clean {u : MicroOp} (hf : u.fault = none) (hd : u.dec ≠ none) : u.faultOwn := by
  unfold MicroOp.faultOwn
  rwa [hf]

theorem executeOp_of_clean {u : MicroOp} {d : Decoded} (hf : u.fault = none) (hd : u.dec = some d) (done : Lanes) :
    executeOp done u =
      { u with
        result := (compute d.op u.pc u.len d.imm (operandValue done u.srcA) (operandValue done u.srcB)).result
        store := (compute d.op u.pc u.len d.imm (operandValue done u.srcA) (operandValue done u.srcB)).store
        taken := (compute d.op u.pc u.len d.imm (operandValue done u.srcA) (operandValue done u.srcB)).taken
        target := (compute d.op u.pc u.len d.imm (operandValue done u.srcA) (operandValue done u.srcB)).target } := by
  simp [executeOp, hf, hd]

theorem MicroOp.Ok.executeOp (h : u.Ok c) (done : Lanes) : (executeOp done u).Ok c := by
  by_cases hf : u.fault = none
  · obtain ⟨d, hd⟩ := Option.ne_none_iff_exists'.1 (h.dec_of_clean hf)
    obtain ⟨i, hi, rfl⟩ := h.dec d hd
    have htarget := compute_target_even (op := (recordOf i).op) h.pc
      (recordOf_imm_even (wellFormed_of_decode hi)) u.len (operandValue done u.srcA) (operandValue done u.srcB)
    rw [executeOp_of_clean hf hd]
    exact ⟨h.pc, h.predTarget, htarget, h.predIdx, h.dec, MicroOp.faultOwn_of_clean hf (h.dec_of_clean hf)⟩
  · rw [executeOp_fault hf]
    exact h

/-- A micro-op without pending error keeps what it has when its result changes. -/
theorem MicroOp.Ok.with_result (h : u.Ok c) (hf : u.fault = none) (v : Word) : MicroOp.Ok c { u with result := v } :=
  ⟨h.pc, h.predTarget, h.target, h.predIdx, h.dec, MicroOp.faultOwn_of_clean hf (h.dec_of_clean hf)⟩

theorem MicroOp.Ok.faultOp (h : u.Ok c) (hf : u.fault = none) : (faultOp u).Ok c :=
  ⟨h.pc, h.predTarget, h.target, h.predIdx, h.dec, rfl, rfl, h.dec_of_clean hf⟩

end Stages

/-! ## Fetch -/

theorem faultSlot_ok (c : Config) {a : Word} (ha : Even64 a) : (faultSlot a).Ok c :=
  ⟨ha, even64_zero, even64_zero, fun _ h => (by cases h), fun _ h => (by cases h), rfl, rfl⟩

theorem State.predictIndex_lt {s : State} {a : Word} {i : Nat} (h : s.predictIndex a = some i) :
    i < 2 ^ s.cfg.tableBits := by
  unfold State.predictIndex at h
  split at h
  · cases h; exact Nat.mod_lt _ (Nat.two_pow_pos _)
  · cases h; exact Nat.mod_lt _ (Nat.two_pow_pos _)
  · cases h
  · cases h

theorem State.predict_index_lt {s : State} {a : Word} {i : Nat} (h : (s.predict a).2 = some i) :
    i < 2 ^ s.cfg.tableBits := by
  unfold State.predict at h
  split at h
  case h_1 j hj =>
    cases h
    exact State.predictIndex_lt hj
  case h_2 => cases h

/-- A micro-op that Fetch follows to an even address. -/
theorem MicroOp.Ok.follow {c : Config} {u : MicroOp} (h : u.Ok c) {target : Word} (ht : Even64 target) :
    (u.follow target).Ok c := ⟨h.pc, ht, h.target, h.predIdx, h.dec, h.faultOwn⟩

theorem State.fetchedOp_ok {s : State} {a : Word} (ha : Even64 a) (hras : ∀ b ∈ s.rasStack, Even64 b) (len : Len)
    (word : InstWord) : (s.fetchedOp a len word).Ok s.cfg := by
  unfold State.fetchedOp
  rcases newMicroOp_cases a len word with ⟨i, hi, hn⟩ | ⟨e, he, hn⟩ <;> rw [hn]
  · have hok : MicroOp.Ok s.cfg { blankOp a with len := len, word := word, dec := some (recordOf i) } :=
      ⟨ha, even64_zero, even64_zero, fun _ h => (by cases h), fun d hd => ⟨i, hi, (Option.some.inj hd).symm⟩,
        fun h => by cases h⟩
    have himm (hr : (recordOf i).op.relative = true) : Even64 (a + (recordOf i).imm) :=
      even64_add ha (recordOf_imm_even (wellFormed_of_decode hi) hr)
    rw [State.predictOp_of_dec rfl]
    cases hb : (recordOf i).isBranch with
    | true =>
      rw [State.predictDecoded_of_branch hb]
      refine ⟨ha, ?_, even64_zero, fun j hj => State.predict_index_lt hj, hok.dec, hok.faultOwn⟩
      dsimp only
      split_ifs
      · exact himm (recordOf_relative_of_isBranch i hb)
      · exact even64_zero
    | false =>
      by_cases hj : (recordOf i).op = .jal
      · rw [State.predictDecoded_of_jal hb hj]
        split_ifs
        · exact hok.follow (himm (by rw [hj]; rfl))
        · exact hok
      cases hr : (recordOf i).isReturn with
      | false =>
        rw [State.predictDecoded_of_other hb hj hr]
        exact hok
      | true =>
        rw [State.predictDecoded_of_return hb hr]
        cases hs : s.rasStack with
        | nil => simpa using hok
        | cons top rest =>
          split_ifs
          · exact hok.follow (hras top (by simp [hs]))
          · exact hok
  · exact ⟨ha, even64_zero, even64_zero, fun _ h => (by cases h), fun _ h => (by cases h), rfl, rfl, rfl⟩

/-- Every micro-op of a bundle, and where Fetch goes on. -/
theorem Bundle.ok {s : State} {window n used : Nat} {a b : Word} {us : List MicroOp} (h : Bundle s window n a used us b)
    (ha : Even64 a) (hras : ∀ x ∈ s.rasStack, Even64 x) : (∀ u ∈ us, u.Ok s.cfg) ∧ Even64 b := by
  induction h with
  | full | windowEnd => exact ⟨by simp, ha⟩
  | fault n a => exact ⟨fun u hu => List.mem_singleton.1 hu ▸ faultSlot_ok s.cfg ha, ha⟩
  | redirect n a used len word =>
    have hok := State.fetchedOp_ok ha hras len word
    exact ⟨fun u hu => List.mem_singleton.1 hu ▸ hok, hok.predTarget⟩
  | next n a used len word us b _ _ _ _ ih =>
    have hok := State.fetchedOp_ok ha hras len word
    obtain ⟨hus, hb⟩ := ih (even64_add ha (even64_len len))
    exact ⟨fun u hu => (List.mem_cons.1 hu).elim (fun h => h ▸ hok) (hus u), hb⟩

end Sys2Proof.Machine

/-!
PROOF. The invariant, stage by stage (spec/10_state.md): what each stage does to the shape of the lanes and to the
micro-ops in them, and that every step keeps `State.Inv`.
-/

namespace Sys2Proof.Machine

/-! ## The shape of lanes: packed, and nothing behind a serialising micro-op -/

theorem all_isNone_iff (l : Lanes) : l.all Option.isNone = true ↔ AllBubbles l := by
  simp [AllBubbles, Option.isNone_iff_eq_none]

theorem lanesPacked_of_allBubbles {l : Lanes} (h : AllBubbles l) : lanesPacked l = true := by
  cases l with
  | nil => rfl
  | cons slot rest =>
    obtain rfl := h slot List.mem_cons_self
    exact (all_isNone_iff rest).2 fun q hq => h q (List.mem_cons_of_mem _ hq)

/-- The lanes hold micro-ops from lane 0 on, and bubbles behind them. -/
theorem lanesPacked_iff (l : Lanes) : lanesPacked l = true ↔ ∃ (ops : List MicroOp) (n : Nat), l = ops.map some ++ bubbles n := by
  constructor
  · intro h
    induction l with
    | nil => exact ⟨[], 0, rfl⟩
    | cons slot rest ih =>
      cases slot with
      | none =>
        have hrest : rest = bubbles rest.length := List.eq_replicate_iff.2 ⟨rfl, (all_isNone_iff rest).1 h⟩
        exact ⟨[], rest.length + 1, by rw [bubbles_succ, ← hrest]; rfl⟩
      | some u =>
        obtain ⟨ops, n, rfl⟩ := ih h
        exact ⟨u :: ops, n, rfl⟩
  · rintro ⟨ops, n, rfl⟩
    induction ops with
    | nil => exact lanesPacked_bubbles n
    | cons u ops ih => exact ih

theorem serialLast_append_bubbles {pre : Lanes} {n : Nat} (h : serialLast pre = true) :
    serialLast (pre ++ bubbles n) = true := by
  induction pre with
  | nil => exact serialLast_bubbles n
  | cons slot rest ih =>
    cases slot with
    | none => exact ih h
    | some u =>
      simp only [List.cons_append, serialLast, Bool.and_eq_true, Bool.or_eq_true, all_isNone_iff] at h ⊢
      refine ⟨h.1.imp_right fun hb q hq => ?_, ih h.2⟩
      rcases List.mem_append.1 hq with hq | hq
      · exact hb q hq
      · exact allBubbles_bubbles n q hq

theorem serialLast_prefix {pre rest : Lanes} (h : serialLast (pre ++ rest) = true) : serialLast pre = true := by
  induction pre with
  | nil => rfl
  | cons slot l ih =>
    cases slot with
    | none => exact ih h
    | some u =>
      simp only [List.cons_append, serialLast, Bool.and_eq_true, Bool.or_eq_true, all_isNone_iff] at h ⊢
      exact ⟨h.1.imp_right fun hb q hq => hb q (List.mem_append_left _ hq), ih h.2⟩

/-- Lanes with every lane from some one on emptied. -/
theorem lanesPacked_truncate {pre rest : Lanes} (h : lanesPacked (pre ++ rest) = true) (n : Nat) :
    lanesPacked (pre ++ bubbles n) = true := by
  induction pre with
  | nil => exact lanesPacked_bubbles n
  | cons slot l ih =>
    cases slot with
    | none =>
      refine (all_isNone_iff _).2 fun q hq => ?_
      rcases List.mem_append.1 hq with hq | hq
      · exact (all_isNone_iff _).1 h q (List.mem_append_left _ hq)
      · exact allBubbles_bubbles n q hq
    | some u => exact ih h

theorem serialLast_truncate {pre rest : Lanes} (h : serialLast (pre ++ rest) = true) (n : Nat) :
    serialLast (pre ++ bubbles n) = true := serialLast_append_bubbles (serialLast_prefix h)

/-- Micro-ops of which only the last is serialising. -/
theorem serialLast_map_some {ops : List MicroOp} (h : ∀ k u, ops[k]? = some u → k + 1 < ops.length → u.serialising = false) :
    serialLast (ops.map some) = true := by
  induction ops with
  | nil => rfl
  | cons u ops ih =>
    have hrest := ih fun k v hv hk => h (k + 1) v (by simpa using hv) (by simpa using hk)
    simp only [List.map_cons, serialLast, Bool.and_eq_true, hrest, and_true]
    cases ops with
    | nil => simp
    | cons v ops => simp [h 0 u rfl (by simp)]

/-! ## Latches through the stages -/

section Latches

variable {c : Config}

/-- A latch emptied. -/
theorem Latch.Ok.cleared {l : Latch} (h : l.Ok c) : l.cleared.Ok c := by
  have hb := Latch.ok_bubbles c l.isStalled
  rwa [← h.width] at hb

/-- Lanes `l'` made of the lanes `l`: as many, and in as good a shape. -/
structure ShapeKept (l l' : Lanes) : Prop where
  length : l'.length = l.length
  bubbles : AllBubbles l → AllBubbles l'
  packed : lanesPacked l = true → lanesPacked l' = true
  serial : serialLast l = true → serialLast l' = true

theorem ShapeKept.refl (l : Lanes) : ShapeKept l l := ⟨rfl, id, id, id⟩

theorem ShapeKept.bubble {l l' : Lanes} (h : ShapeKept l l') : ShapeKept (none :: l) (none :: l') where
  length := by simp [h.length]
  bubbles hb q hq := (List.mem_cons.1 hq).elim id (h.bubbles (fun r hr => hb r (List.mem_cons_of_mem _ hr)) q)
  packed hp := (all_isNone_iff _).2 (h.bubbles ((all_isNone_iff _).1 hp))
  serial := h.serial

/-- A micro-op in place of one that is as serialising. -/
theorem ShapeKept.op {l l' : Lanes} {u v : MicroOp} (h : ShapeKept l l') (hs : v.serialising = u.serialising) :
    ShapeKept (some u :: l) (some v :: l') where
  length := by simp [h.length]
  bubbles hb := by cases hb _ List.mem_cons_self
  packed := h.packed
  serial hsl := by
    simp only [serialLast, Bool.and_eq_true, Bool.or_eq_true, all_isNone_iff, hs] at hsl ⊢
    exact ⟨hsl.1.imp_right h.bubbles, h.serial hsl.2⟩

/-- Any micro-op, and nothing behind it. -/
theorem ShapeKept.stop (l : Lanes) (u v : MicroOp) : ShapeKept (some u :: l) (some v :: Machine.bubbles l.length) where
  length := by simp
  bubbles hb := by cases hb _ List.mem_cons_self
  packed _ := lanesPacked_bubbles l.length
  serial _ := by simp [serialLast, (all_isNone_iff _).2 (allBubbles_bubbles l.length), serialLast_bubbles]

/-- The lanes of MEMWB that a pass of the Memory stage makes. -/
theorem MemoryPass.shape {bus : MemoryBus} {l l' : Lanes} {s t : State} (h : MemoryPass bus l s l' t) :
    ShapeKept l l' := by
  induction h with
  | nil => exact .refl []
  | bubble _ ih => exact ih.bubble
  | copy _ _ _ ih | store _ _ _ _ _ _ ih | load _ _ _ _ _ ih => exact ih.op rfl
  | fault u | snoop u => exact .stop _ u _

/-- The micro-ops of MEMWB that a pass of the Memory stage makes. -/
theorem MemoryPass.ops_ok {bus : MemoryBus} {l l' : Lanes} {s t : State} (h : MemoryPass bus l s l' t)
    (hl : ∀ u, some u ∈ l → u.Ok c) : ∀ u, some u ∈ l' → u.Ok c := by
  have head {u v : MicroOp} {l : Lanes} (hv : v.Ok c) (hl : ∀ u, some u ∈ l → u.Ok c) :
      some u ∈ some v :: l → u.Ok c := fun hu =>
    (List.mem_cons.1 hu).elim (fun h => Option.some.inj h ▸ hv) (hl u)
  induction h with
  | nil => exact hl
  | bubble _ ih =>
    intro u hu
    exact ih (fun v hv => hl v (List.mem_cons_of_mem _ hv)) u ((List.mem_cons.1 hu).resolve_left nofun)
  | copy _ _ _ ih | store _ _ _ _ _ _ ih =>
    intro u
    exact head (hl _ List.mem_cons_self) (ih fun v hv => hl v (List.mem_cons_of_mem _ hv))
  | load w hf _ _ _ ih =>
    intro u
    exact head ((hl _ List.mem_cons_self).with_result hf _) (ih fun v hv => hl v (List.mem_cons_of_mem _ hv))
  | fault w hf =>
    intro u
    exact head ((hl _ List.mem_cons_self).faultOp hf) fun v hv => absurd hv (not_mem_bubbles _ v)
  | snoop w =>
    intro u
    exact head (hl _ List.mem_cons_self) fun v hv => absurd hv (not_mem_bubbles _ v)

/-- Execute changes a micro-op in its slot only, and keeps whether it is serialising. -/
theorem executeOp_serialising (done : Lanes) (u : MicroOp) : (executeOp done u).serialising = u.serialising := by
  unfold executeOp
  split <;> rfl

/-- The lanes Execute makes of a bundle. -/
theorem executeLanes_shape (l done : Lanes) : ∃ l', executeLanes done l = done ++ l' ∧ ShapeKept l l' := by
  induction l generalizing done with
  | nil => exact ⟨[], by simp [executeLanes], .refl []⟩
  | cons slot rest ih =>
    obtain ⟨l', hl', hkept⟩ := ih (done ++ [slot.map fun u => executeOp done u])
    refine ⟨(slot.map fun u => executeOp done u) :: l', by rw [executeLanes, hl', List.append_assoc]; rfl, ?_⟩
    cases slot with
    | none => exact hkept.bubble
    | some u => exact hkept.op (executeOp_serialising done u)

theorem executeLanes_ops_ok {l done : Lanes} (hdone : ∀ u, some u ∈ done → u.Ok c) (hl : ∀ u, some u ∈ l → u.Ok c) :
    ∀ u, some u ∈ executeLanes done l → u.Ok c := by
  induction l generalizing done with
  | nil => exact hdone
  | cons slot rest ih =>
    refine ih (fun u hu => ?_) fun u hu => hl u (List.mem_cons_of_mem _ hu)
    rcases List.mem_append.1 hu with hu | hu
    · exact hdone u hu
    · cases slot with
      | none => simp at hu
      | some v =>
        obtain rfl : u = executeOp done v := by simpa using hu
        exact (hl v List.mem_cons_self).executeOp done

end Latches

end Sys2Proof.Machine

/-!
PROOF. Every step keeps the invariant (spec/10_state.md): the predictor's part of it, then each stage of a cycle, then
the step of the reference, and from it that a launched machine runs safely.
-/

namespace Sys2Proof.Machine

/-! ## The predictor and the return-address stack -/

/-- The part of the invariant about the predictor and the return-address stack (R31, R32, R33). -/
structure State.PredictorOk (s : State) : Prop where
  table : sparseWf s.cfg.initCounter s.counters
  counters : ∀ p ∈ s.counters, p.1 < 2 ^ s.cfg.tableBits ∧ p.2 < 2 ^ s.cfg.counterBits
  ghr : s.ghr < 2 ^ s.cfg.tableBits
  rasDepth : s.rasStack.length ≤ s.cfg.rasDepth
  rasOff : s.cfg.ras = false → s.rasStack = []
  rasEven : ∀ a ∈ s.rasStack, Even64 a

theorem State.Inv.predictorOk {s : State} (h : s.Inv) : s.PredictorOk :=
  ⟨h.table, h.counters, h.ghr, h.rasDepth, h.rasOff, h.rasEven⟩

theorem trainCounter_lt {bits n : Nat} (h : n < 2 ^ bits) (taken : Bool) : trainCounter bits n taken < 2 ^ bits := by
  unfold trainCounter
  split_ifs <;> omega

theorem sparseRead_mem {β : Type} {d : β} {m : List (Nat × β)} {i : Nat} :
    sparseRead d m i = d ∨ (i, sparseRead d m i) ∈ m := by
  induction m with
  | nil => exact .inl rfl
  | cons p rest ih =>
    obtain ⟨k, v⟩ := p
    unfold sparseRead
    split_ifs with hk
    · exact .inr (by simp [hk])
    · exact ih.imp_right (List.mem_cons_of_mem _)

section Predictor

variable {s : State}

theorem State.PredictorOk.counter_lt (h : s.PredictorOk) (hinit : s.cfg.initCounter < 2 ^ s.cfg.counterBits) (i : Nat) :
    s.counter i < 2 ^ s.cfg.counterBits := by
  rcases sparseRead_mem (d := s.cfg.initCounter) (m := s.counters) (i := i) with hd | hm
  · rwa [State.counter, hd]
  · exact (h.counters _ hm).2

theorem State.PredictorOk.train (h : s.PredictorOk) (hinit : s.cfg.initCounter < 2 ^ s.cfg.counterBits)
    {i : Option Nat} (hi : ∀ j, i = some j → j < 2 ^ s.cfg.tableBits) (taken : Bool) : (s.train i taken).PredictorOk := by
  cases i with
  | none => exact h
  | some i =>
    refine ⟨sparseWrite_wf h.table i _, fun p hp => ?_, ?_, h.rasDepth, h.rasOff, h.rasEven⟩
    · rcases mem_sparseWrite hp with ⟨rfl, -⟩ | hp
      · exact ⟨hi i rfl, trainCounter_lt (h.counter_lt hinit i) taken⟩
      · exact h.counters p hp
    · change (if s.cfg.predictor = .gshare then shiftHistory s.cfg.tableBits s.ghr taken else s.ghr) < _
      split_ifs
      · exact Nat.mod_lt _ (Nat.two_pow_pos _)
      · exact h.ghr

theorem State.PredictorOk.updateRas (h : s.PredictorOk) (hras : s.cfg.ras = true) {u : MicroOp} (hu : Even64 u.nextPc) :
    (s.updateRas u).PredictorOk := by
  unfold State.updateRas
  split_ifs
  · refine ⟨h.table, h.counters, h.ghr, ?_, fun hoff => by simp [hras] at hoff, fun a ha => ?_⟩
    · simp [pushReturn, List.length_take]
    · rcases List.mem_cons.1 (List.mem_of_mem_take ha) with rfl | ha
      · exact hu
      · exact h.rasEven a ha
  · refine ⟨h.table, h.counters, h.ghr, ?_, fun hoff => by simp [hras] at hoff, fun a ha => ?_⟩
    · rw [List.length_tail]
      exact (Nat.sub_le _ _).trans h.rasDepth
    · exact h.rasEven a (List.mem_of_mem_tail ha)
  · exact h

theorem resolvedBy_predictorOk {l : Lanes} (h : s.PredictorOk) (hinit : s.cfg.initCounter < 2 ^ s.cfg.counterBits)
    (hl : ∀ u, some u ∈ l → u.Ok s.cfg) : (resolvedBy l s).PredictorOk := by
  induction l generalizing s with
  | nil => exact h
  | cons slot rest ih =>
    cases slot with
    | none => exact ih h hinit fun u hu => hl u (List.mem_cons_of_mem _ hu)
    | some u =>
      have hu := hl u List.mem_cons_self
      have hrest (v : MicroOp) (hv : some v ∈ rest) : v.Ok s.cfg := hl v (List.mem_cons_of_mem _ hv)
      have htrain : (if u.flag Decoded.isBranch = true then s.train u.predIdx u.taken else s).PredictorOk ∧
          (if u.flag Decoded.isBranch = true then s.train u.predIdx u.taken else s).cfg = s.cfg := by
        split_ifs
        · exact ⟨h.train hinit hu.predIdx u.taken, s.train_cfg _ _⟩
        · exact ⟨h, rfl⟩
      simp only [resolvedBy]
      generalize (if u.flag Decoded.isBranch = true then s.train u.predIdx u.taken else s) = b at htrain
      obtain ⟨hb, hcfg⟩ := htrain
      by_cases hf : u.fault = none
      · rw [if_pos hf]
        by_cases hras : b.cfg.ras = true
        · rw [if_pos hras]
          have hcfg' : (b.updateRas u).cfg = b.cfg := by
            obtain ⟨st, hst⟩ := b.updateRas_keeps u
            rw [hst]
          exact ih (hb.updateRas hras hu.nextPc_even) (by rwa [hcfg', hcfg]) (by rwa [hcfg', hcfg])
        · rw [if_neg hras]
          exact ih hb (by rwa [hcfg]) (by rwa [hcfg])
      · rw [if_neg hf]
        exact ih h hinit hrest

end Predictor

/-! ## Writeback -/

section Writeback

variable {s : State}

theorem State.Inv.setStatus (h : s.Inv) (st : Status) : (s.setStatus st).Inv := { h with }

theorem State.Inv.commit (h : s.Inv) (u : MicroOp) : (s.commit u).Inv := by
  have hzero : (s.commitReg u).regs[0] = s.regs[0] := by
    unfold State.commitReg
    split
    · split_ifs
      · exact writeRegs_slot_zero ..
      · rfl
    · rfl
  obtain ⟨regs, hc⟩ := s.commitReg_eq u
  have hcommit : s.commit u = ({ s with regs := regs } : State).countRetired u := by rw [State.commit, hc]
  rw [hc] at hzero
  rw [hcommit]
  refine { h with zero := hzero.trans h.zero, retired := ?_ }
  have := h.retired
  simp only [State.countRetired_metrics]
  split_ifs <;> omega

theorem State.Inv.serialFlush (h : s.Inv) {u : MicroOp} (hu : Even64 u.nextPc) : (s.serialFlush u).Inv :=
  { h with
    pc := hu
    ifid := h.ifid.cleared
    idex := h.idex.cleared
    exmem := h.exmem.cleared
    serial := ⟨serialLast_bubbles _, serialLast_bubbles _, h.serial.2.2⟩
    mispredicted := h.mispredicted.trans (Nat.le_succ _) }

theorem State.Inv.applyReply (h : s.Inv) (a : HostReply) : (s.applyReply a).Inv :=
  { h with
    memory := applyMemWrites_wf h.memory _
    region := fun q hq => (mem_applyMemWrites hq).elim id (h.region q)
    zero := (applyRegWrites_slot_zero _ _).trans h.zero }

theorem State.Inv.retires {u : MicroOp} {r : LaneEnd × State} (h : s.Inv) (hu : Even64 u.nextPc)
    (hr : Retires s u r) : r.2.Inv := by
  cases hr with
  | raises => exact h.setStatus _
  | commits => exact h.commit u
  | ends => exact (h.commit u).setStatus _
  | flushes => exact (h.commit u).serialFlush hu
  | continues => exact ((h.commit u).applyReply _).serialFlush hu
  | exits => exact ((h.commit u).applyReply _).setStatus _

theorem retireLanes_inv {c : Config} {l : Lanes} (h : s.Inv) (hl : ∀ u, some u ∈ l → u.Ok c) : (retireLanes l s).Inv := by
  induction l generalizing s with
  | nil => exact h
  | cons slot rest ih =>
    have hrest (v : MicroOp) (hv : some v ∈ rest) : v.Ok c := hl v (List.mem_cons_of_mem _ hv)
    cases slot with
    | none => exact ih h hrest
    | some u =>
      have hu := (hl u List.mem_cons_self).nextPc_even
      rcases retireLanes_cons u rest s with ⟨t, hr, ht⟩ | ⟨t, hr, ht⟩ <;> rw [ht]
      · exact ih (h.retires hu hr) hrest
      · exact h.retires hu hr

end Writeback

/-! ## Memory -/

section Memory

variable {s t : State}

theorem State.Inv.memWrite (h : s.Inv) {a : Word} {n : Nat} (hr : s.inRange a n = true) (v : Word) :
    (s.memWrite a n v).Inv := by
  obtain ⟨h1, h2⟩ := (s.inRange_iff_inRegion a n).1 hr
  refine { h with memory := Memory.writeLE_wf h.memory _ _ _, region := fun q hq => ?_ }
  change s.plat.memBase ≤ q.1 ∧ q.1 < s.plat.memBase + s.plat.memSize
  rcases Memory.mem_writeLE hq with hq | hq
  · exact ⟨by omega, lt_of_lt_of_le hq.2 h2⟩
  · exact h.region q hq

theorem State.Inv.snoopFlush (h : s.Inv) {u : MicroOp} (hu : Even64 u.nextPc) : (s.snoopFlush u).Inv :=
  { h with
    pc := hu
    ifid := h.ifid.cleared
    idex := h.idex.cleared
    serial := ⟨serialLast_bubbles _, h.serial.2.1, h.serial.2.2⟩
    mispredicted := h.mispredicted.trans (Nat.le_succ _) }

theorem MemoryPass.inv {c : Config} {l l' : Lanes} (h : MemoryPass .reference l s l' t) (hs : s.Inv)
    (hl : ∀ u, some u ∈ l → u.Ok c) : t.Inv := by
  induction h with
  | nil | fault => exact hs
  | bubble _ ih | copy _ _ _ ih | load _ _ _ _ _ ih => exact ih hs fun v hv => hl v (List.mem_cons_of_mem _ hv)
  | store u hf hst hr _ _ ih => exact ih (hs.memWrite hr _) fun v hv => hl v (List.mem_cons_of_mem _ hv)
  | snoop u hf hst hr => exact (hs.memWrite hr _).snoopFlush (hl u List.mem_cons_self).nextPc_even

/-- A latch whose lanes are made of another's. -/
theorem Latch.Ok.of_shapeKept {c : Config} {l l' : Latch} (h : l.Ok c) (hk : ShapeKept l.lanes l'.lanes)
    (hops : ∀ u, some u ∈ l'.lanes → u.Ok c) : l'.Ok c :=
  ⟨hk.length.trans h.width, hk.packed h.packed, hops⟩

theorem State.Inv.memoryStage (h : s.Inv) : s.memoryStage.Inv := by
  have hpass := memoryLanes_pass .reference s.exmem.lanes s
  obtain ⟨-, hcfg, -, -, -, -, -, -, hmemwb, -⟩ := memoryLanes_keeps s.exmem.lanes s .reference
  have hinv := hpass.inv h h.exmem.ops
  have hok : Latch.Ok s.cfg ⟨(memoryLanes s.exmem.lanes s).1, (memoryLanes s.exmem.lanes s).2.memwb.isStalled⟩ :=
    h.exmem.of_shapeKept hpass.shape (hpass.ops_ok h.exmem.ops)
  rw [← hcfg] at hok
  exact { hinv with
    memwb := hok
    serial := ⟨hinv.serial.1, hinv.serial.2.1, hpass.shape.serial h.serial.2.1⟩ }

end Memory

/-! ## Execute and the ControlHazardUnit -/

section Execute

variable {s : State}

theorem State.Inv.executeStage (h : s.Inv) : s.executeStage.Inv := by
  obtain ⟨l', hl', hkept⟩ := executeLanes_shape s.idex.lanes []
  have hlanes : executeLanes [] s.idex.lanes = l' := hl'
  have hops : ∀ u, some u ∈ l' → u.Ok s.cfg := hlanes ▸ executeLanes_ops_ok (by simp) h.idex.ops
  have hexmem : s.executeStage.exmem = ⟨l', s.exmem.isStalled⟩ := by rw [← hlanes]; rfl
  refine { h with exmem := ?_, serial := ⟨h.serial.1, ?_, h.serial.2.2⟩ } <;> rw [hexmem]
  · exact h.idex.of_shapeKept hkept hops
  · exact hkept.serial h.serial.1

theorem ShapeKept.truncate (pre rest : Lanes) (u : MicroOp) :
    ShapeKept (pre ++ some u :: rest) (pre ++ some u :: Machine.bubbles rest.length) := by
  induction pre with
  | nil => exact .stop rest u u
  | cons slot l ih =>
    cases slot with
    | none => exact ih.bubble
    | some v => exact ih.op rfl

theorem State.Inv.countBranches (h : s.Inv) (l : Lanes) : (s.countBranches l).Inv :=
  { h with predicted := Nat.add_le_add h.predicted (rightBranchesIn_le l) }

theorem State.Inv.resolvedBy (h : s.Inv) (hinit : s.cfg.initCounter < 2 ^ s.cfg.counterBits) {l : Lanes}
    (hl : ∀ u, some u ∈ l → u.Ok s.cfg) : (resolvedBy l s).Inv := by
  have hp := resolvedBy_predictorOk h.predictorOk hinit hl
  obtain ⟨c, g, st, hr⟩ := resolvedBy_keeps l s
  rw [hr] at hp ⊢
  exact { h with
    table := hp.table
    counters := hp.counters
    ghr := hp.ghr
    rasDepth := hp.rasDepth
    rasOff := hp.rasOff
    rasEven := hp.rasEven }

theorem State.Inv.redirect (h : s.Inv) {u : MicroOp} (hu : Even64 u.actualPc) (hmode : s.fetchMode ≠ .hold) :
    (s.redirect u).Inv where
  memory := h.memory
  region := h.region
  zero := h.zero
  pc := hu
  ifid := h.ifid.cleared
  idex := h.idex.cleared
  exmem := h.exmem
  memwb := h.memwb
  stalledIfid := by
    have hs : s.ifid.isStalled ≠ true := fun hs => hmode (h.stalledIfid.1 hs)
    refine ⟨fun hst => absurd hst hs, fun hhold => ?_⟩
    rw [State.redirect_fetchMode] at hhold
    split_ifs at hhold
    exact absurd hhold hmode
  stalledOthers := h.stalledOthers
  serial := ⟨serialLast_bubbles _, h.serial.2.1, h.serial.2.2⟩
  table := h.table
  counters := h.counters
  ghr := h.ghr
  rasDepth := h.rasDepth
  rasOff := h.rasOff
  rasEven := h.rasEven
  retired := h.retired
  mispredicted := Nat.add_le_add_right h.mispredicted 1
  predicted := h.predicted
  budget := h.budget

theorem State.Inv.controlHazard (h : s.Inv) (hinit : s.cfg.initCounter < 2 ^ s.cfg.counterBits)
    (hmode : s.fetchMode ≠ .hold) : s.controlHazard.Inv := by
  rcases s.controlHazard_cases with ⟨-, ht⟩ | ⟨pre, u, rest, hl, -, -, -, ht⟩ <;> rw [ht]
  · exact (h.resolvedBy hinit h.exmem.ops).countBranches _
  · have hpre : ∀ v, some v ∈ pre ++ [some u] → v.Ok s.cfg := fun v hv => h.exmem.ops v (by
      rw [hl]
      simp only [List.mem_append, List.mem_cons, List.not_mem_nil, or_false] at hv ⊢
      tauto)
    have hu := hpre u (by simp)
    have hres := (h.resolvedBy hinit hpre).countBranches (pre ++ [some u])
    obtain ⟨c, g, st, hr⟩ := resolvedBy_keeps (pre ++ [some u]) s
    have hinv := hres.redirect hu.actualPc_even (by rw [hr]; exact hmode)
    have hkept : ShapeKept s.exmem.lanes (pre ++ some u :: bubbles rest.length) := hl ▸ .truncate pre rest u
    have hops : ∀ v, some v ∈ pre ++ some u :: bubbles rest.length → v.Ok s.cfg := fun v hv => by
      rcases List.mem_append.1 hv with hv | hv
      · exact hpre v (List.mem_append_left _ hv)
      · rcases List.mem_cons.1 hv with hv | hv
        · exact Option.some.inj hv ▸ hu
        · exact absurd hv (not_mem_bubbles _ v)
    rw [hr] at hinv ⊢
    exact { hinv with
      exmem := h.exmem.of_shapeKept (l' := s.exmem.withLanes _) hkept hops
      serial := ⟨hinv.serial.1, hkept.serial h.serial.2.1, hinv.serial.2.2⟩ }

end Execute

/-! ## Decode and Fetch -/

section DecodeFetch

variable {s : State}

/-- What is issued are the planned lanes with their operands. -/
theorem State.resolveAll_issued {plan : List Planned} {us : List MicroOp} (h : s.resolveAll plan = some us) :
    List.Forall₂ (Issued s) plan us := by
  obtain ⟨vs, hvs, hissued⟩ := State.resolveAll_of_no_wait (s := s) (plan := plan) fun p hp =>
    not_or.1 fun hwait => by rw [State.resolveAll_eq_none hp hwait] at h; cases h
  rwa [Option.some.inj (h.symm.trans hvs)]

/-- `v` is `u` with its operands and its mark filled by Decode. -/
def IssuedAs (u v : MicroOp) : Prop :=
  ∃ (f : Bool) (a b : Source), v = { u with fusedPrev := f, srcA := a, srcB := b }

theorem MicroOp.Ok.issuedAs {c : Config} {u v : MicroOp} (h : u.Ok c) (hv : IssuedAs u v) : v.Ok c := by
  obtain ⟨f, a, b, rfl⟩ := hv
  exact h.issued a b f

theorem IssuedAs.serialising {u v : MicroOp} (h : IssuedAs u v) : v.serialising = u.serialising := by
  obtain ⟨f, a, b, rfl⟩ := h
  rfl

/-- Issued lanes, from a packed bundle: each is its micro-op of the bundle with operands and a mark, and only the last can
be serialising. -/
theorem State.issued_of_bundle {ops us : List MicroOp} {n : Nat} (hl : s.ifid.lanes = ops.map some ++ bubbles n)
    (h : s.resolveAll (planLanes s.cfg [] false s.ifid.lanes) = some us) :
    us.length ≤ ops.length ∧
      (∀ (k : Nat) (v : MicroOp), us[k]? = some v → ∃ u, ops[k]? = some u ∧ IssuedAs u v) ∧
      ∀ (k : Nat) (v : MicroOp), us[k]? = some v → k + 1 < us.length → v.serialising = false := by
  rw [hl] at h
  obtain ⟨hlen, hsplit, -, -, hlane⟩ := splitPointIsTheFirstObstacle s.cfg ops n
  have hissued := State.resolveAll_issued h
  have hplan := hissued.length_eq
  have hlane' (k : Nat) (v : MicroOp) (hv : us[k]? = some v) :
      ∃ u, ops[k]? = some u ∧ IssuedAs u v := by
    obtain ⟨hk, rfl⟩ := List.getElem?_eq_some_iff.1 hv
    have hkp : k < (planLanes s.cfg [] false (ops.map some ++ bubbles n)).length := hplan ▸ hk
    have hko : k < ops.length := hkp.trans_le hlen
    obtain ⟨hop, -⟩ := hlane k _ _ (List.getElem?_eq_getElem hkp) (List.getElem?_eq_getElem hko)
    obtain ⟨a, b, -, -, hu⟩ := hissued.get hkp hk
    refine ⟨ops[k], List.getElem?_eq_getElem hko, fusedAt s.cfg ops k, a, b, ?_⟩
    rw [List.get_eq_getElem, List.get_eq_getElem, hop] at hu
    exact hu
  refine ⟨hplan ▸ hlen, hlane', fun k v hv hk => ?_⟩
  obtain ⟨u, hu, huv⟩ := hlane' k v hv
  by_contra hser
  rw [huv.serialising, Bool.not_eq_false] at hser
  exact hsplit (k + 1) (hplan ▸ hk) (.inl ⟨k, u, rfl, hu, hser⟩)

/-- Only the issued lanes differ, and pc and the splits when some are left over. -/
theorem State.Inv.issue (h : s.Inv) {us : List MicroOp}
    (hus : s.resolveAll (planLanes s.cfg [] false s.ifid.lanes) = some us) : (s.issue us).Inv := by
  obtain ⟨ops, n, hl⟩ := (lanesPacked_iff _).1 h.ifid.packed
  obtain ⟨hlen, hlane, hserial⟩ := State.issued_of_bundle hl hus
  have hwidth : us.length ≤ s.cfg.width := by
    have := h.ifid.width
    rw [hl] at this
    simp only [List.length_append, List.length_map, bubbles_length] at this
    omega
  have hok : Latch.Ok s.cfg (s.idex.withLanes (packLanes s.cfg.width us)) := by
    refine ⟨packLanes_length hwidth, (lanesPacked_iff _).2 ⟨us, _, rfl⟩, fun v hv => ?_⟩
    rcases List.mem_append.1 hv with hv | hv
    · obtain ⟨w, hw, hvw⟩ := List.mem_map.1 hv
      obtain rfl := Option.some.inj hvw
      obtain ⟨k, hk⟩ := List.mem_iff_getElem?.1 hw
      obtain ⟨u, hu, huv⟩ := hlane k _ hk
      refine (h.ifid.ops u ?_).issuedAs huv
      rw [hl]
      exact List.mem_append_left _ (List.mem_map_of_mem (List.mem_of_getElem? hu))
    · exact absurd hv (not_mem_bubbles _ v)
  have hser : serialLast (packLanes s.cfg.width us) = true := serialLast_append_bubbles (serialLast_map_some hserial)
  rcases s.issue_cases us with hi | ⟨u, hu, hi⟩ <;> rw [hi]
  · exact { h with idex := hok, serial := ⟨hser, h.serial.2⟩ }
  · exact { h with idex := hok, serial := ⟨hser, h.serial.2⟩, pc := (h.ifid.ops u hu).pc }

theorem State.Inv.fetchStage (h : s.Inv) (hmode : s.fetchMode ≠ .hold) : s.fetchStage.Inv := by
  cases hm : s.fetchMode with
  | hold => exact absurd hm hmode
  | bubble =>
    have hf : s.fetchStage = { s with ifid := s.ifid.cleared } := by simp [State.fetchStage, hm]
    rw [hf]
    exact { h with ifid := h.ifid.cleared }
  | run =>
    have hb := fetchLanes_bundle s (Config.fetchBytes s.cfg) s.cfg.width s.pc 0
    obtain ⟨hops, hpc⟩ := hb.ok h.pc h.rasEven
    have hok : Latch.Ok s.cfg ⟨packLanes s.cfg.width (fetchLanes s (Config.fetchBytes s.cfg) s.cfg.width s.pc 0).1, false⟩ := by
      refine ⟨packLanes_length hb.length_le, (lanesPacked_iff _).2 ⟨_, _, rfl⟩, fun v hv => ?_⟩
      rcases List.mem_append.1 hv with hv | hv
      · obtain ⟨w, hw, hvw⟩ := List.mem_map.1 hv
        exact Option.some.inj hvw ▸ hops w hw
      · exact absurd hv (not_mem_bubbles _ v)
    rw [State.fetchStage_run hm]
    exact { h with ifid := hok, pc := hpc, stalledIfid := ⟨fun hf => Bool.noConfusion hf, fun hh => absurd hh hmode⟩ }

theorem State.Inv.decodeFetch (h : s.Inv) (hmode : s.fetchMode ≠ .hold) : s.decodeStage.fetchStage.Inv := by
  rcases s.decodeStage_cases with ⟨-, hd⟩ | ⟨us, hus, hd⟩ <;> rw [hd]
  · exact { h with
      idex := h.idex.cleared
      stalledIfid := ⟨fun _ => rfl, fun _ => rfl⟩
      ifid := ⟨h.ifid.width, h.ifid.packed, h.ifid.ops⟩
      serial := ⟨serialLast_bubbles _, h.serial.2⟩ }
  · exact (h.issue hus).fetchStage (by rwa [State.issue_fetchMode])

end DecodeFetch

/-! ## The step -/

section Step

variable {s : State}

theorem initCounter_lt_of_valid {c : Config} {p : Platform} (h : configError c p = none) :
    c.initCounter < 2 ^ c.counterBits := by
  by_contra hno
  unfold configError at h
  split_ifs at h

theorem State.Inv.beginCycle (h : s.Inv) (hb : s.metrics.cycles < s.cfg.budget) : s.beginCycle.Inv :=
  { h with
    ifid := ⟨h.ifid.width, h.ifid.packed, h.ifid.ops⟩
    stalledIfid := ⟨nofun, nofun⟩
    budget := hb }

theorem State.Inv.cycle (h : s.Inv) (hinit : s.cfg.initCounter < 2 ^ s.cfg.counterBits)
    (hb : s.metrics.cycles < s.cfg.budget) : s.cycle.Inv := by
  have hwb : s.beginCycle.writebackStage.Inv := retireLanes_inv (h.beginCycle hb) h.memwb.ops
  by_cases hrun : s.beginCycle.writebackStage.status = .running
  · obtain ⟨hcfg, -, -, -, -, -, hmode, -⟩ := retireLanes_keeps s.memwb.lanes s.beginCycle
    have hmem := hwb.memoryStage.executeStage
    obtain ⟨-, -, -, -, -, hmode', -⟩ := s.beginCycle.writebackStage.memoryStage_effect .reference
    have hcfg' := (s.beginCycle.writebackStage.memoryStage_sameSetup .reference).cfg
    have hnohold : s.beginCycle.writebackStage.memoryStage.executeStage.fetchMode ≠ .hold := by
      have : s.beginCycle.writebackStage.memoryStage.executeStage.fetchMode = .run := hmode'.trans hmode
      rw [this]
      decide
    have hcfg'' : s.beginCycle.writebackStage.memoryStage.executeStage.cfg = s.cfg := hcfg'.trans hcfg
    have hhazard := hmem.controlHazard (by rwa [hcfg'']) hnohold
    obtain ⟨_, _, _, -, -, -, -, -, -, -, hmode''⟩ :=
      s.beginCycle.writebackStage.memoryStage.executeStage.controlHazard_effect
    rw [State.cycle_running hrun]
    exact hhazard.decodeFetch (hmode'' hnohold)
  · rw [State.cycle_ended hrun]
    exact hwb

theorem State.Inv.hostCall (h : s.Inv) (pc : Word) : (s.hostCall pc).Inv := by
  cases hv : s.hostReply.verdict using verdictCases with
  | goesOn =>
    rw [State.hostCall_continue hv]
    exact h.applyReply _
  | exit =>
    rw [State.hostCall_exit hv]
    exact (h.applyReply _).setStatus _
  | fault addr =>
    rw [State.hostCall_fault hv]
    exact h.setStatus _
  | refuse =>
    rw [State.hostCall_refuse hv]
    exact h.setStatus _

/-- Memory after the access of a record's step. -/
theorem State.Inv.storedMem (h : s.Inv) {d : Decoded} (hf : ¬ s.accessFaults d) :
    (s.storedMem d).wf ∧ ∀ q ∈ s.storedMem d, s.plat.memBase ≤ q.1 ∧ q.1 < s.plat.memBase + s.plat.memSize := by
  unfold State.storedMem
  split_ifs with hst
  · have hw := h.memWrite (eq_true_of_ne_false fun hr => hf ⟨.inr hst, hr⟩) (s.computeRecord d).store
    exact ⟨hw.memory, hw.region⟩
  · exact ⟨h.memory, h.region⟩

/-- The sequential step of a record the Decoder gives, from an even pc. -/
theorem State.Inv.recordStep (h : s.Inv) {i : Instr} (hi : i.wellFormed = true) : (s.recordStep (recordOf i)).Inv := by
  have hreg := recordOf_regular i
  by_cases hf : s.accessFaults (recordOf i)
  · rw [State.recordStep_of_accessFaults hf]
    exact h.setStatus _
  cases hs : (recordOf i).serial with
  | false =>
    have hstored := h.storedMem hf
    rw [State.recordStep_of_plain hreg hs hf]
    refine { h with memory := hstored.1, region := hstored.2, zero := ?_, pc := ?_ }
    · dsimp only
      split_ifs
      · exact (writeRegs_slot_zero ..).trans h.zero
      · exact h.zero
    · change Even64 (if _ then _ else _)
      split_ifs
      · exact compute_target_even h.pc (recordOf_imm_even hi) ..
      · exact even64_add h.pc (even64_len _)
  | true =>
    have hnext : Even64 (s.pcAfter (recordOf i).len) := even64_add h.pc (even64_len _)
    rcases hreg.serial.1 hs with ho | ho | ho
    · rw [State.recordStep_ebreak hreg ho]
      exact h.setStatus _
    · rw [State.recordStep_ecall hreg ho]
      split_ifs
      · exact { h.hostCall s.pc with pc := hnext }
      · exact h.hostCall s.pc
    · rw [State.recordStep_fenceI hreg ho]
      exact { h with pc := hnext }

theorem State.Inv.referenceStep {t : State} (h : s.Inv) (ht : s.referenceStep = .next t) : t.Inv := by
  rcases s.referenceStep_cases with ⟨-, hs⟩ | ⟨_, _, _, -, -, hs⟩ | ⟨len, word, i, -, hd, hs⟩ <;> rw [hs] at ht
  · cases ht
    exact h.setStatus _
  · cases ht
    exact h.setStatus _
  · rw [exec_eq_recordStep] at ht
    cases ht
    exact h.recordStep (wellFormed_of_decode hd)

/-- Settles O35. -/
theorem invariantIsKept : Obligations.InvariantIsKept := by
  intro s t h hstep
  obtain ⟨hvalid, ⟨-, rfl⟩ | ⟨-, -, rfl⟩ | ⟨-, -, ht⟩⟩ := step_cases hstep
  · exact h
  · unfold State.pipelineTurn
    split_ifs with hb
    · exact h.cycle (initCounter_lt_of_valid hvalid) hb
    · exact h.setStatus _
  · exact h.referenceStep ht

/-- With a valid configuration every step answers a next state. -/
theorem exists_step_of_valid (h : configError s.cfg s.plat = none) : ∃ t, step s = .next t := by
  unfold step
  rw [h]
  dsimp only
  split_ifs
  · cases s.engine with
    | pipeline => exact ⟨_, rfl⟩
    | reference => exact ⟨_, s.referenceStep_eq⟩
  · exact ⟨s, rfl⟩

theorem safeFor_of_inv (n : Nat) (h : s.Inv) (hvalid : configError s.cfg s.plat = none) : SafeFor n s := by
  induction n generalizing s with
  | zero => exact h
  | succ n ih =>
    obtain ⟨t, ht⟩ := exists_step_of_valid hvalid
    obtain ⟨hcfg, hplat, -⟩ := configurationIsNeverWritten s t ht
    exact ⟨h, t, ht, ih (invariantIsKept s t h ht) (by rwa [hcfg, hplat])⟩

end Step

/-- Settles O36: the launched state meets the invariant, and its configuration is valid and stays. -/
theorem launchedMachinesRunSafely : Obligations.LaunchedMachinesRunSafely := by
  intro e c p given image s n h
  refine safeFor_of_inv n (inv_of_launch h) ?_
  obtain ⟨hc, rfl⟩ := launch_cases h
  exact hc

end Sys2Proof.Machine

/-!
PROOF. The tandem invariant (spec/70_reset_and_hazards.md R265): how the micro-ops in flight, oldest first, walk along the
run of the sequential reference.

The reference state `r` stands where the retired instructions have left it. From there the micro-ops in MEMWB, EXMEM,
IDEX and IFID are the next instructions of the reference: a walk takes them one by one, moves `r` on, and says of each
what its stage has made of it for the step from `r`. A micro-op with an error, a system action or an access out of range
ends the walk: what is younger never commits, so nothing is said of it.
-/

namespace Sys2Proof.Machine

/-! ## The run of the reference -/

/-- One step of the reference while the run goes on. -/
def State.advance (s : State) : State := if s.status = .running then s.referenceStepWith .reference else s

theorem State.advance_running {s : State} (h : s.status = .running) : s.advance = s.referenceStepWith .reference :=
  if_pos h

theorem State.advance_ended {s : State} (h : s.status ≠ .running) : s.advance = s := if_neg h

/-- The bounded run of the reference is its steps, and `NotHalted` if it still goes on. -/
theorem State.referenceRun_eq (n : Nat) (s : State) :
    State.referenceRun n s =
      if (State.advance^[n] s).status = .running then (State.advance^[n] s).setStatus .notHalted
      else State.advance^[n] s := by
  induction n generalizing s with
  | zero => rfl
  | succ n ih =>
    by_cases h : s.status = .running
    · simp only [State.referenceRun, if_pos h, State.referenceStep_eq, Function.iterate_succ_apply,
        State.advance_running h, ih]
    · rw [Function.iterate_succ_apply, State.advance_ended h, Function.iterate_fixed (State.advance_ended h), if_neg h,
        State.referenceRun, if_neg h]

/-! ## Walks -/

/-- A way of walking along the reference: what holds of a micro-op at a state of the reference, whether the walk goes on
behind it, and where. -/
structure Walk where
  ok : State → MicroOp → Prop
  goes : State → MicroOp → Prop
  next : State → MicroOp → State

/-- The walk over the lanes from `s`, with `k` for the state it arrives in. -/
def Walk.Along (w : Walk) : Lanes → State → (State → Prop) → Prop
  | [], s, k => k s
  | none :: l, s, k => w.Along l s k
  | some u :: l, s, k => w.ok s u ∧ (w.goes s u → w.Along l (w.next s u) k)

section Along

variable {w : Walk}

theorem Walk.Along.imp {l : Lanes} {s : State} {k k' : State → Prop} (h : w.Along l s k) (hk : ∀ t, k t → k' t) :
    w.Along l s k' := by
  induction l generalizing s with
  | nil => exact hk s h
  | cons slot rest ih =>
    cases slot with
    | none => exact ih h
    | some u => exact ⟨h.1, fun hg => ih (h.2 hg)⟩

theorem Walk.along_bubbles (n : Nat) (s : State) (k : State → Prop) : w.Along (bubbles n) s k ↔ k s := by
  induction n with
  | zero => exact Iff.rfl
  | succ n ih => exact ih

theorem Walk.along_of_allBubbles {l : Lanes} (h : AllBubbles l) (s : State) (k : State → Prop) :
    w.Along l s k ↔ k s := by
  have hl : l = bubbles l.length := List.eq_replicate_iff.2 ⟨rfl, h⟩
  rw [hl]
  exact w.along_bubbles _ _ _

theorem Walk.along_append_bubbles (l : Lanes) (n : Nat) (s : State) (k : State → Prop) :
    w.Along (l ++ bubbles n) s k ↔ w.Along l s k := by
  induction l generalizing s with
  | nil => exact w.along_bubbles n s k
  | cons slot rest ih =>
    cases slot with
    | none => exact ih s
    | some u => exact and_congr Iff.rfl (imp_congr Iff.rfl (ih _))

end Along

/-- The sequential step of a micro-op's record. -/
def State.after (s : State) (u : MicroOp) : State :=
  match u.dec with
  | some d => s.recordStep d
  | none => s

theorem State.after_of_dec {s : State} {u : MicroOp} {d : Decoded} (h : u.dec = some d) :
    s.after u = s.recordStep d := by
  simp only [State.after, h]

/-- The micro-op is none that ends a bundle or the run: no pending error, no system action, no access out of range. -/
def GoesOn (s : State) (u : MicroOp) : Prop :=
  u.fault = none ∧ ∀ d, u.dec = some d → d.serial = false ∧ ¬ s.accessFaults d

/-- In MEMWB: the micro-op's error is that of the reference's step, or its results are. -/
def Committable (s : State) (u : MicroOp) : Prop :=
  (∃ e, u.fault = some e ∧ s.referenceStepWith .reference = s.raise e) ∨
    ∃ d, Accessed s u d ∧ s.referenceStepWith .reference = s.recordStep d

/-- In EXMEM: the micro-op is at the reference's pc and has the ComputeUnit's answers for the step of its record. -/
def ExecutedAt (s : State) (u : MicroOp) : Prop := u.pc = s.pc ∧ (u.fault = none → ∃ d, Executed s u d)

/-- The walk over MEMWB. -/
def Walk.commit : Walk := ⟨Committable, GoesOn, State.after⟩

/-- The walk over EXMEM. -/
def Walk.execute : Walk := ⟨ExecutedAt, GoesOn, State.after⟩

/-- The walk over what Execute makes of IDEX, along the path that Fetch followed. -/
def Walk.issue : Walk := ⟨ExecutedAt, GoesOn, fun s u => (s.after u).setPc u.followedPc⟩

/-- Fetch followed the lanes of IFID from `a`, and goes on at `b`. A pending error ends the bundle. -/
def FetchPath : Lanes → Word → Word → Prop
  | [], a, b => b = a
  | none :: l, a, b => FetchPath l a b
  | some u :: l, a, b => u.pc = a ∧ (u.fault = none → FetchPath l u.followedPc b)

theorem fetchPath_bubbles (n : Nat) (a b : Word) : FetchPath (bubbles n) a b ↔ b = a := by
  induction n with
  | zero => exact Iff.rfl
  | succ n ih => exact ih

/-! ## Coherence: what is in flight is what memory holds -/

/-- The micro-op is what a fetch at its address gives in `s`. -/
def Coherent (s : State) (u : MicroOp) : Prop :=
  (s.fetchWord u.pc = none ∧ u.fault = some (.fetchFault u.pc)) ∨
    (s.fetchWord u.pc = some (u.len, u.word) ∧ u.DecodedAs)

theorem State.fetchWord_congr {s m : State} (hplat : m.plat = s.plat) (hmem : m.mem = s.mem) (a : Word) :
    m.fetchWord a = s.fetchWord a := by
  unfold State.fetchWord State.inRange State.memRead
  rw [hplat, hmem]

theorem Coherent.congr {s m : State} {u : MicroOp} (h : Coherent s u) (hplat : m.plat = s.plat) (hmem : m.mem = s.mem) :
    Coherent m u := by
  unfold Coherent
  rwa [State.fetchWord_congr hplat hmem]

/-- A coherent micro-op at the reference's pc is the reference's next instruction. -/
theorem Coherent.referenceStep {s m : State} {u : MicroOp} (h : Coherent m u) (hplat : m.plat = s.plat)
    (hmem : m.mem = s.mem) (hpc : u.pc = s.pc) :
    (∃ e, u.fault = some e ∧ s.referenceStepWith .reference = s.raise e) ∨
      ∃ d, u.fault = none ∧ u.dec = some d ∧ s.referenceStepWith .reference = s.recordStep d := by
  rw [Coherent, State.fetchWord_congr hplat hmem, hpc] at h
  unfold State.referenceStepWith
  rcases h with ⟨hnone, hf⟩ | ⟨hsome, ⟨i, hi, hd, hf⟩ | ⟨e, he, hd, hf⟩⟩
  · exact .inl ⟨_, hf, by simp [hnone]⟩
  · exact .inr ⟨_, hf, hd, by simp [hsome, decodeRecord_ok hi]⟩
  · exact .inl ⟨_, hf, by simp [hsome, decodeRecord_error he, hpc]⟩

/-- A fault-free coherent micro-op has the record of an instruction of its width. -/
theorem Coherent.record {m : State} {u : MicroOp} (h : Coherent m u) (hf : u.fault = none) :
    ∃ d, u.dec = some d ∧ d.Regular ∧ d.len = u.len := by
  rcases h with ⟨-, hno⟩ | ⟨-, ⟨i, hi, hd, -⟩ | ⟨e, -, -, hno⟩⟩
  · simp [hf] at hno
  · exact ⟨_, hd, recordOf_regular i, (recordOf_len i).trans (lenOf_of_decode hi)⟩
  · simp [hf] at hno

theorem Memory.readLE_congr {m m' : Memory} {a n : Nat} (h : ∀ k < n, m'.byte (a + k) = m.byte (a + k)) :
    m'.readLE a n = m.readLE a n := by
  induction n generalizing a with
  | zero => rfl
  | succ n ih =>
    have hrest := ih (a := a + 1) fun k hk => by simpa [Nat.add_assoc, Nat.add_comm 1] using h (k + 1) (by omega)
    have hfirst : m'.byte a = m.byte a := h 0 (by omega)
    rw [Memory.readLE, Memory.readLE, hrest, hfirst]

/-- A fetch reads only the bytes of the instruction it gives, and those of the first parcel. -/
theorem State.fetchWord_of_sameBytes {s m : State} {a : Word} {n : Nat} (hplat : m.plat = s.plat) (h2 : 2 ≤ n)
    (hb : ∀ k < n, m.mem.byte (a.toNat + k) = s.mem.byte (a.toNat + k))
    (hn : ∀ len word, s.fetchWord a = some (len, word) → len.bytes ≤ n) : m.fetchWord a = s.fetchWord a := by
  have hread (j : Nat) (hj : j ≤ n) : m.memRead a j = s.memRead a j :=
    Memory.readLE_congr fun k hk => hb k (hk.trans_le hj)
  by_cases h2r : InRegion s a 2
  · have h2m : InRegion m a 2 := by rwa [InRegion, hplat]
    cases hl : lenOfParcel (BitVec.ofNat 16 (s.memRead a 2)) with
    | two => rw [State.fetchWord_of_two h2r hl, State.fetchWord_of_two h2m (by rwa [hread 2 h2]), hread 2 h2]
    | four =>
      rw [State.fetchWord_of_four h2r hl] at hn ⊢
      rw [State.fetchWord_of_four h2m (by rwa [hread 2 h2]), State.inRange_congr hplat]
      by_cases hr4 : s.inRange a 4 = true
      · rw [if_pos hr4, if_pos hr4, hread 4 (hn .four _ (if_pos hr4))]
      · rw [if_neg hr4, if_neg hr4]
  · rw [State.fetchWord_of_outside h2r, State.fetchWord_of_outside (by rwa [InRegion, hplat])]

/-- A store that touches none of its bytes leaves a micro-op coherent. -/
theorem Coherent.memWrite {s : State} {u : MicroOp} {ea v : Word} {n : Nat} (h : Coherent s u)
    (hno : u.overlaps ea.toNat n = false) : Coherent (s.memWrite ea n v) u := by
  have hbytes : 2 ≤ u.len.bytes := by cases u.len <;> decide
  have hsame : ∀ k < u.len.bytes, (s.memWrite ea n v).mem.byte (u.pc.toNat + k) = s.mem.byte (u.pc.toNat + k) := by
    intro k hk
    refine s.memWrite_sameBytesOutside ea n v _ ?_
    simp only [MicroOp.overlaps, Bool.and_eq_false_iff, decide_eq_false_iff_not] at hno
    omega
  have hlen : ∀ len word, s.fetchWord u.pc = some (len, word) → len.bytes ≤ u.len.bytes := by
    intro len word hf
    rcases h with ⟨hnone, -⟩ | ⟨hsome, -⟩
    · rw [hnone] at hf
      cases hf
    · rw [hsome] at hf
      cases hf
      exact le_rfl
  rwa [Coherent, State.fetchWord_of_sameBytes (s := s) (m := s.memWrite ea n v) rfl hbytes hsame hlen]

/-! ## The stores in MEMWB -/

/-- Memory after the store of a slot of MEMWB, if it holds a fault-free one. -/
def storeSlot (m : Memory) (slot : Option MicroOp) : Memory :=
  match slot with
  | none => m
  | some u =>
    if u.fault = none ∧ u.flag Decoded.isStore = true then m.writeLE u.result.toNat u.memBytes u.store.toNat else m

/-- Memory after the stores of lanes, in lane order. -/
def storesDone (l : Lanes) (m : Memory) : Memory := l.foldl storeSlot m

theorem storesDone_bubbles (n : Nat) (m : Memory) : storesDone (bubbles n) m = m := by
  induction n with
  | zero => rfl
  | succ n ih => exact ih

/-- A micro-op that is no fault-free store. -/
theorem storesDone_of_not_store {u : MicroOp} (h : u.fault = none → u.flag Decoded.isStore = false) (l : Lanes)
    (m : Memory) : storesDone (some u :: l) m = storesDone l m := by
  have hslot : storeSlot m (some u) = m := if_neg fun hs => by simp [h hs.1] at hs
  rw [storesDone, List.foldl_cons, hslot]
  rfl

/-- The memory the step of its record leaves. -/
theorem Accessed.storesDone {s : State} {u : MicroOp} {d : Decoded} (h : Accessed s u d) (l : Lanes) :
    storesDone (some u :: l) s.mem = Machine.storesDone l (s.storedMem d) := by
  cases hs : d.isStore with
  | true =>
    have hslot : storeSlot s.mem (some u) = s.storedMem d := by
      rw [State.storedMem, if_pos hs, ← h.address hs, ← h.store hs, ← MicroOp.memBytes_of_dec h.dec]
      exact if_pos ⟨h.fault, (u.flag_of_some _ d h.dec).trans hs⟩
    rw [Machine.storesDone, List.foldl_cons, hslot]
    rfl
  | false =>
    rw [storesDone_of_not_store (fun _ => (u.flag_of_some _ d h.dec).trans hs), State.storedMem, if_neg (by simp [hs])]

end Sys2Proof.Machine

/-!
PROOF. Writeback and Memory in tandem with the reference (spec/40_pipeline_cycle.md R89 to R98): Writeback moves the
reference over the micro-ops it retires, and the Memory stage turns the walk over EXMEM into the walk over MEMWB.
-/

namespace Sys2Proof.Machine

/-! ## Ends of a bundle -/

theorem allBubbles_of_serialLast {u : MicroOp} {rest : Lanes} (h : serialLast (some u :: rest) = true)
    (hs : u.serialising = true) : AllBubbles rest := by
  simp only [serialLast, hs, Bool.not_true, Bool.false_or, Bool.and_eq_true, all_isNone_iff] at h
  exact h.1

theorem serialLast_tail {slot : Option MicroOp} {rest : Lanes} (h : serialLast (slot :: rest) = true) :
    serialLast rest = true := by
  cases slot with
  | none => exact h
  | some u =>
    rw [serialLast, Bool.and_eq_true] at h
    exact h.2

theorem MicroOp.serialising_of_fault {u : MicroOp} (h : u.fault ≠ none) : u.serialising = true := by
  rw [MicroOp.serialising, MicroOp.clean_eq_false h]
  rfl

theorem MicroOp.serialising_of_serial {u : MicroOp} {d : Decoded} (hd : u.dec = some d) (h : d.serial = true) :
    u.serialising = true := by
  rw [MicroOp.serialising, u.flag_of_some _ d hd, h, Bool.or_true]

/-! ## Writeback -/

/-- What Writeback of lanes comes to, from a state `m` in tandem with the reference state `s`: every micro-op retires and
the walk arrives where `k` holds; a flush leaves nothing younger in flight and pc at the reference's; or the run ends as the
reference does in one more step. -/
inductive CommitOutcome (s m : State) (k : State → Prop) (t : State) : Prop
  | retired (n : Nat) (hs : (State.advance^[n] s).status = .running) (ht : t.status = .running)
      (hview : SameView (State.advance^[n] s) t) (hcount : t.metrics.isaRetired = m.metrics.isaRetired + n)
      (hbehind : t.exmem = m.exmem ∧ t.idex = m.idex ∧ t.ifid = m.ifid ∧ t.pc = m.pc ∧ t.mem = m.mem)
      (hk : k (State.advance^[n] s))
  | flushed (n : Nat) (hs : (State.advance^[n] s).status = .running) (ht : t.status = .running)
      (hview : SameView (State.advance^[n] s) t) (hcount : t.metrics.isaRetired = m.metrics.isaRetired + n)
      (hbehind : t.exmem = m.exmem.cleared ∧ t.idex = m.idex.cleared ∧ t.ifid = m.ifid.cleared)
      (hpc : t.pc = (State.advance^[n] s).pc)
  | ended (n : Nat) (ht : t.status ≠ .running) (hcount : t.metrics.isaRetired = m.metrics.isaRetired + n)
      (harch : SameArchitecture (State.advance^[n + 1] s) t)

/-- One micro-op retired before. -/
theorem CommitOutcome.step {s m m' t : State} {k : State → Prop} (h : CommitOutcome s.advance m' k t)
    (hcount : m'.metrics.isaRetired = m.metrics.isaRetired + 1)
    (hbehind : m'.exmem = m.exmem ∧ m'.idex = m.idex ∧ m'.ifid = m.ifid ∧ m'.pc = m.pc ∧ m'.mem = m.mem) :
    CommitOutcome s m k t := by
  obtain ⟨hex, hid, hif, hpc, hmem⟩ := hbehind
  cases h with
  | retired n hs ht hview hc hb hk =>
    rw [hex, hid, hif, hpc, hmem] at hb
    exact .retired (n + 1) hs ht hview (by omega) hb hk
  | flushed n hs ht hview hc hb hp =>
    rw [hex, hid, hif] at hb
    exact .flushed (n + 1) hs ht hview (by omega) hb hp
  | ended n ht hc harch => exact .ended (n + 1) ht (by omega) harch

section Writeback

variable {s m : State} {u : MicroOp} {d : Decoded}

theorem Accessed.goesOn (h : Accessed s u d) (hs : d.serial = false) : GoesOn s u := by
  refine ⟨h.fault, fun d' hd' => ?_⟩
  obtain rfl := Option.some.inj (h.dec.symm.trans hd')
  exact ⟨hs, h.inRange⟩

/-- A system action that is next on the reference, after every store of MEMWB. -/
theorem Accessed.commitOutcome_serial (h : Accessed s u d) (hs : d.serial = true)
    (hstep : s.referenceStepWith .reference = s.recordStep d) (hview : SameView s m) (hrun : s.status = .running)
    (hrun' : m.status = .running) (k : State → Prop) (rest : Lanes) :
    CommitOutcome s m k (retireLanes (some u :: rest) m) := by
  obtain ⟨t, ht, harch, hcount, hflush⟩ := h.retireOp_serial hs hview hrun hrun'
  rw [retireLanes_ended ht]
  have hadvance : State.advance^[1] s = s.recordStep d := by
    rw [Function.iterate_one, State.advance_running hrun, hstep]
  have hplat : t.plat = m.plat := by
    obtain ⟨-, hp, -⟩ := m.retireOp_keeps u
    rwa [ht] at hp
  obtain ⟨hregs, hmem, hout, hstatus⟩ := harch
  by_cases hr : t.status = .running
  · obtain ⟨hpc, hbehind⟩ := hflush hr
    refine .flushed 1 (by rw [hadvance, ← hstatus, hr]) hr ⟨?_, ?_, ?_, ?_⟩ hcount hbehind (by rw [hadvance, hpc]) <;>
      rw [hadvance]
    · exact hplat.trans (hview.plat.trans (s.recordStep_sameMachine d).plat.symm)
    · exact hregs
    · exact hmem
    · exact hout
  · refine .ended 1 hr hcount ?_
    have hended : State.advance^[2] s = s.recordStep d := by
      rw [Function.iterate_succ_apply', hadvance, State.advance_ended (by rwa [← hstatus])]
    rw [hended]
    exact ⟨hregs, hmem, hout, hstatus⟩

/-- Writeback in tandem: the reference moves over what retires. -/
theorem retireLanes_along {l : Lanes} {k : State → Prop} (hwalk : Walk.commit.Along l s k) (hserial : serialLast l = true)
    (hrun : s.status = .running) (hrun' : m.status = .running) (hplat : m.plat = s.plat) (hregs : m.regs = s.regs)
    (hout : m.out = s.out) (hmem : m.mem = storesDone l s.mem) : CommitOutcome s m k (retireLanes l m) := by
  induction l generalizing s m with
  | nil => exact .retired 0 hrun hrun' ⟨hplat, hregs, hmem, hout⟩ rfl ⟨rfl, rfl, rfl, rfl, rfl⟩ hwalk
  | cons slot rest ih =>
    cases slot with
    | none => exact ih hwalk hserial hrun hrun' hplat hregs hout hmem
    | some u =>
      obtain ⟨hok, hgo⟩ := hwalk
      rcases hok with ⟨e, hf, hstep⟩ | ⟨d, hd, hstep⟩
      · have hrest := allBubbles_of_serialLast hserial (MicroOp.serialising_of_fault (by simp [hf]))
        have hmem' : m.mem = s.mem := by
          rw [hmem, storesDone_of_not_store (by simp [hf]), List.eq_replicate_iff.2 ⟨rfl, hrest⟩]
          exact storesDone_bubbles _ _
        rw [retireLanes_fault hf]
        refine .ended 0 (by simp) rfl ?_
        rw [Function.iterate_one, State.advance_running hrun, hstep]
        exact ⟨hregs, hmem', hout, rfl⟩
      · rw [hd.storesDone] at hmem
        cases hs : d.serial with
        | true =>
          have hrest := allBubbles_of_serialLast hserial (MicroOp.serialising_of_serial hd.dec hs)
          obtain ⟨-, hst, -⟩ := hd.regular.system hs
          have hmem' : m.mem = s.mem := by
            rw [hmem, State.storedMem, if_neg (by simp [hst]), List.eq_replicate_iff.2 ⟨rfl, hrest⟩]
            exact storesDone_bubbles _ _
          exact hd.commitOutcome_serial hs hstep ⟨hplat, hregs, hmem', hout⟩ hrun hrun' k rest
        | false =>
          have hnext : s.advance = s.recordStep d := by rw [State.advance_running hrun, hstep]
          have hplain := State.recordStep_of_plain hd.regular hs hd.inRange
          have hafter := hgo (hd.goesOn hs)
          rw [show Walk.commit.next s u = s.recordStep d from State.after_of_dec hd.dec, ← hnext] at hafter
          have hretire : retireLanes (some u :: rest) m =
              retireLanes rest { m.countRetired u with regs := s.advance.regs } := by
            rw [hnext]
            simp only [retireLanes, hd.retireOp_plain hs hregs]
          rw [hretire]
          refine CommitOutcome.step (m' := { m.countRetired u with regs := s.advance.regs })
            (ih hafter (serialLast_tail hserial) ?_ hrun' ?_ rfl ?_ ?_) rfl ⟨rfl, rfl, rfl, rfl, rfl⟩ <;>
            rw [hnext, hplain]
          · exact hrun
          · exact hplat
          · exact hout
          · exact hmem

end Writeback

/-! ## Memory -/

theorem memoryLanes_of_allBubbles {l : Lanes} (h : AllBubbles l) (s : State) : memoryLanes l s = (l, s) := by
  have hl : l = bubbles l.length := List.eq_replicate_iff.2 ⟨rfl, h⟩
  rw [hl]
  exact memoryLanes_bubbles _ s _

theorem overlaps_of_not_snoopHit {ea n : Nat} {l : Lanes} {v : MicroOp} (h : snoopHit ea n l = false)
    (hv : some v ∈ l) : v.overlaps ea n = false := by
  by_contra hno
  rw [Bool.not_eq_false] at hno
  have hhit : snoopHit ea n l = true := List.any_eq_true.2 ⟨some v, hv, hno⟩
  rw [hhit] at h
  cases h

/-- What the Memory stage comes to, from lanes that walk along the reference from `s` to where `k` holds: the stores are
done, and either only memory has changed, the walk goes on and IDEX and IFID are still what memory holds, or a store-snoop
flush has left nothing behind MEMWB and pc where the reference goes on. -/
structure MemoryOutcome (s m : State) (k : State → Prop) (l : Lanes) (t : State) : Prop where
  mem : t.mem = storesDone l s.mem
  outcome : ((∃ mem, t = { m with mem := mem }) ∧ Walk.commit.Along l s k ∧
      ∀ v, some v ∈ m.idex.lanes ++ m.ifid.lanes → Coherent t v) ∨
    (t.idex = m.idex.cleared ∧ t.ifid = m.ifid.cleared ∧ Walk.commit.Along l s fun r => t.pc = r.pc)

section Memory

variable {s m : State} {k : State → Prop}

/-- A lane that ends its bundle, with nothing behind it: a pending error or a system action. -/
theorem MemoryOutcome.of_last {u : MicroOp} {rest : Lanes} (hrest : AllBubbles rest) (hok : Committable s u)
    (hgo : ¬ GoesOn s u) (hst : u.fault = none → u.flag Decoded.isStore = false) (hmem : m.mem = s.mem)
    (hcoh : ∀ v, some v ∈ m.idex.lanes ++ m.ifid.lanes → Coherent m v) :
    MemoryOutcome s m k (some u :: rest) m where
  mem := by
    rw [storesDone_of_not_store hst, List.eq_replicate_iff.2 ⟨rfl, hrest⟩, hmem]
    exact (storesDone_bubbles _ _).symm
  outcome := .inl ⟨⟨m.mem, rfl⟩, ⟨hok, fun h => absurd h hgo⟩, hcoh⟩

/-- A micro-op through Memory, before lanes with that outcome. -/
theorem MemoryOutcome.cons {u : MicroOp} {d : Decoded} {l : Lanes} {m' t : State} (h : Accessed s u d)
    (hstep : s.referenceStepWith .reference = s.recordStep d) (hmem : (s.recordStep d).mem = s.storedMem d)
    (hm' : ∃ mem, m' = { m with mem := mem }) (hrest : MemoryOutcome (s.recordStep d) m' k l t) :
    MemoryOutcome s m k (some u :: l) t where
  mem := by rw [hrest.mem, h.storesDone, hmem]
  outcome := by
    obtain ⟨mem, rfl⟩ := hm'
    have along {k' : State → Prop} (hl : Walk.commit.Along l (s.recordStep d) k') :
        Walk.commit.Along (some u :: l) s k' :=
      ⟨.inr ⟨d, h, hstep⟩, fun _ => by rwa [show Walk.commit.next s u = _ from State.after_of_dec h.dec]⟩
    rcases hrest.outcome with ⟨⟨mem', ht⟩, hl, hcoh⟩ | ⟨hid, hif, hl⟩
    · exact .inl ⟨⟨mem', ht⟩, along hl, hcoh⟩
    · exact .inr ⟨hid, hif, along hl⟩

/-- The Memory stage in tandem. -/
theorem memoryLanes_along {l : Lanes} (hwalk : Walk.execute.Along l s k) (hserial : serialLast l = true)
    (hplat : m.plat = s.plat) (hmem : m.mem = s.mem)
    (hcoh : ∀ v, some v ∈ l ++ (m.idex.lanes ++ m.ifid.lanes) → Coherent m v) :
    MemoryOutcome s m k (memoryLanes l m).1 (memoryLanes l m).2 := by
  induction l generalizing s m with
  | nil => exact ⟨hmem, .inl ⟨⟨m.mem, rfl⟩, hwalk, hcoh⟩⟩
  | cons slot rest ih =>
    have hcohRest : ∀ v, some v ∈ rest ++ (m.idex.lanes ++ m.ifid.lanes) → Coherent m v :=
      fun v hv => hcoh v (List.mem_cons_of_mem _ hv)
    have hcohFront : ∀ v, some v ∈ m.idex.lanes ++ m.ifid.lanes → Coherent m v :=
      fun v hv => hcohRest v (List.mem_append_right _ hv)
    cases slot with
    | none =>
      obtain ⟨hm, hout⟩ := ih hwalk hserial hplat hmem hcohRest
      exact ⟨hm, hout⟩
    | some u =>
      obtain ⟨⟨hpc, hex⟩, hgo⟩ := hwalk
      rcases (hcoh u List.mem_cons_self).referenceStep hplat hmem hpc with ⟨e, hf, hstep⟩ | ⟨d, hf, hd, hstep⟩
      · have hrest := allBubbles_of_serialLast hserial (MicroOp.serialising_of_fault (by simp [hf]))
        rw [memoryLanes_copied (by simp [hf]), memoryLanes_of_allBubbles hrest]
        exact .of_last hrest (.inl ⟨e, hf, hstep⟩) (fun hg => by simp [hg.1] at hf) (by simp [hf]) hmem hcohFront
      · obtain ⟨d', he⟩ := hex hf
        obtain rfl := Option.some.inj (hd.symm.trans he.dec)
        by_cases hfault : s.accessFaults d
        · rw [memoryLanes_executed_fault he hplat hfault]
          refine .of_last (allBubbles_bubbles _) (.inl ⟨_, rfl, ?_⟩) (fun hg => by cases hg.1) nofun hmem hcohFront
          rw [hstep, State.recordStep_of_accessFaults hfault, hpc, he.result]
        cases hs : d.serial with
        | true =>
          have hrest := allBubbles_of_serialLast hserial (MicroOp.serialising_of_serial hd hs)
          obtain ⟨hl, hst, -⟩ := he.regular.system hs
          have hflags : u.flag Decoded.isLoad = false ∧ u.flag Decoded.isStore = false := by
            simp [u.flag_of_some _ d hd, hl, hst]
          rw [memoryLanes_copied fun _ => hflags, memoryLanes_of_allBubbles hrest]
          refine .of_last hrest (.inr ⟨d, he.accessed hfault hl, hstep⟩) (fun hg => ?_) (fun _ => hflags.2) hmem hcohFront
          have := (hg.2 d hd).1
          simp [hs] at this
        | false =>
          have hplain := State.recordStep_of_plain he.regular hs hfault
          have hmem' : (s.recordStep d).mem = s.storedMem d := by rw [hplain]
          have hplat' : (s.recordStep d).plat = s.plat := (s.recordStep_sameMachine d).plat
          have hafter : Walk.execute.Along rest (s.recordStep d) k := by
            have hg : GoesOn s u := ⟨hf, fun d' hd' => by
              obtain rfl := Option.some.inj (hd.symm.trans hd')
              exact ⟨hs, hfault⟩⟩
            have := hgo hg
            rwa [show Walk.execute.next s u = _ from State.after_of_dec hd] at this
          have hstored : d.isStore = true → (m.memWrite u.result d.memBytes u.store).mem = s.storedMem d := fun hst => by
            rw [State.storedMem, if_pos hst, ← he.result, ← he.store, ← hmem]
            rfl
          rcases memoryLanes_executed (rest := rest) he hmem hplat hfault with
            ⟨hst, v, hv, hlanes⟩ | ⟨hst, hv, ⟨hno, hlanes⟩ | hlanes⟩ <;> rw [hlanes]
          · have hsame : m.mem = (s.recordStep d).mem := by
              rw [hmem', State.storedMem, if_neg (by simp [hst]), hmem]
            exact .cons hv hstep hmem' ⟨m.mem, rfl⟩
              (ih hafter (serialLast_tail hserial) (hplat.trans hplat'.symm) hsame hcohRest)
          · refine .cons hv hstep hmem' ⟨_, rfl⟩ (ih hafter (serialLast_tail hserial) (hplat.trans hplat'.symm)
              ((hstored hst).trans hmem'.symm) fun v hv => ?_)
            rw [List.append_assoc] at hno
            exact (hcohRest v hv).memWrite (overlaps_of_not_snoopHit hno hv)
          · have hnext : u.nextPc = (s.recordStep d).pc := by
              rw [hplain]
              rw [State.recordNextPc_of_not_jumps (he.regular.straight (.inr (.inl hst))), State.pcAfter, he.len, ← hpc]
              rfl
            refine ⟨?_, .inr ⟨rfl, rfl, .inr ⟨d, hv, hstep⟩, fun _ => ?_⟩⟩
            · rw [hv.storesDone, storesDone_bubbles]
              exact hstored hst
            · rw [Walk.along_bubbles, show Walk.commit.next s u = _ from State.after_of_dec hd]
              exact hnext

end Memory

end Sys2Proof.Machine

/-!
PROOF. Execute, the ControlHazardUnit and Decode in tandem with the reference (spec/40_pipeline_cycle.md R83 to R88,
spec/41_hazards_and_flush.md R103 to R115): Execute turns what is issued into executed micro-ops, the ControlHazardUnit
turns the followed path into the actual one, and Decode gives each issued micro-op the operands of the reference's step.
-/

namespace Sys2Proof.Machine

/-! ## Execute -/

/-- What Execute makes of lanes, behind the lanes `done`. -/
def executedLanes (done : Lanes) : Lanes → Lanes
  | [] => []
  | slot :: rest =>
    slot.map (fun u => executeOp done u) :: executedLanes (done ++ [slot.map fun u => executeOp done u]) rest

theorem executeLanes_eq (done l : Lanes) : executeLanes done l = done ++ executedLanes done l := by
  induction l generalizing done with
  | nil => exact (List.append_nil done).symm
  | cons slot rest ih => rw [executeLanes, ih, executedLanes, List.append_assoc, List.singleton_append]

theorem executedLanes_bubbles (done : Lanes) (n : Nat) : executedLanes done (bubbles n) = bubbles n := by
  have h := executeLanes_of_allBubbles (done := done) (allBubbles_bubbles n) .reference
  rwa [executeLanes_eq, List.append_cancel_left_eq] at h

theorem executedLanes_append_bubbles (done l : Lanes) (n : Nat) :
    executedLanes done (l ++ bubbles n) = executedLanes done l ++ bubbles n := by
  induction l generalizing done with
  | nil => exact executedLanes_bubbles done n
  | cons slot rest ih =>
    rw [List.cons_append, executedLanes, executedLanes, List.cons_append, ih]

/-- Execute fills the four result fields only. -/
theorem executeOp_keeps (done : Lanes) (u : MicroOp) :
    ∃ r v t a, executeOp done u = { u with result := r, store := v, taken := t, target := a } := by
  unfold executeOp
  split
  · exact ⟨_, _, _, _, rfl⟩
  · exact ⟨u.result, u.store, u.taken, u.target, rfl⟩

theorem Coherent.executeOp {m : State} {u : MicroOp} (h : Coherent m u) (done : Lanes) :
    Coherent m (executeOp done u) := by
  obtain ⟨r, v, t, a, hu⟩ := executeOp_keeps done u
  rw [hu]
  exact h

theorem mem_executedLanes {done l : Lanes} {v : MicroOp} (h : some v ∈ executedLanes done l) :
    ∃ u done', some u ∈ l ∧ v = executeOp done' u := by
  induction l generalizing done with
  | nil => cases h
  | cons slot rest ih =>
    rcases List.mem_cons.1 h with h | h
    · obtain ⟨u, rfl, hv⟩ := Option.map_eq_some_iff.1 h.symm
      exact ⟨u, done, List.mem_cons_self, hv.symm⟩
    · obtain ⟨u, done', hu, hv⟩ := ih h
      exact ⟨u, done', List.mem_cons_of_mem _ hu, hv⟩

/-! ## The ControlHazardUnit -/

section Hazard

variable {s : State} {u : MicroOp} {pre : Lanes}

/-- The step of an executed micro-op, where the walk goes on. -/
theorem ExecutedAt.plain (h : ExecutedAt s u) (hg : GoesOn s u) :
    ∃ d, Executed s u d ∧ d.serial = false ∧ ¬ s.accessFaults d ∧ s.after u = s.recordStep d := by
  obtain ⟨hf, hd⟩ := hg
  obtain ⟨d, he⟩ := h.2 hf
  obtain ⟨hs, hr⟩ := hd d he.dec
  exact ⟨d, he, hs, hr, State.after_of_dec he.dec⟩

theorem ExecutedAt.after_pc (h : ExecutedAt s u) (hg : GoesOn s u) : (s.after u).pc = u.actualPc := by
  obtain ⟨d, he, hs, hr, hafter⟩ := h.plain hg
  rw [hafter, State.recordStep_of_plain he.regular hs hr, he.actualPc]

/-- On the correct path the followed path is the actual one. -/
theorem OnCorrectPath.execute_along (hp : OnCorrectPath pre) {l l' : Lanes} {k k' : State → Prop}
    (hl : ∀ t, Walk.issue.Along l t k → Walk.execute.Along l' t k') (h : Walk.issue.Along (pre ++ l) s k) :
    Walk.execute.Along (pre ++ l') s k' := by
  induction pre generalizing s with
  | nil => exact hl s h
  | cons slot rest ih =>
    cases slot with
    | none => exact ih hp.tail h
    | some u =>
      obtain ⟨hok, hgo⟩ := h
      refine ⟨hok, fun hg => ih hp.tail ?_⟩
      have hmatch : u.actualPc = u.followedPc := (hp u List.mem_cons_self).resolve_left (not_not_intro hg.1)
      have hnext : Walk.issue.next s u = s.after u := by
        change (s.after u).setPc u.followedPc = s.after u
        rw [← hmatch, ← ExecutedAt.after_pc hok hg]
        rfl
      have := hgo hg
      rwa [hnext] at this

/-- The first mismatch: behind it the walk goes on where the redirect goes. -/
theorem ExecutedAt.execute_along (h : ExecutedAt s u) (n : Nat) :
    Walk.execute.Along (some u :: bubbles n) s fun r => u.actualPc = r.pc :=
  ⟨h, fun hg => (Walk.along_bubbles n _ _).2 (h.after_pc hg).symm⟩

end Hazard

/-! ## What the latches know of the registers -/

/-- The view of the registers behind a lane: what its micro-op produces, or nothing of it when `known` does not say so. -/
def viewBehind (known : MicroOp → Bool) (view : Reg → Option Word) (slot : Option MicroOp) (r : Reg) : Option Word :=
  match slot with
  | none => view r
  | some u => if u.produces r = true then (if known u = true then some u.result else none) else view r

/-- The view behind a list of lanes. -/
def viewAfter (known : MicroOp → Bool) (view : Reg → Option Word) (l : Lanes) : Reg → Option Word :=
  l.foldl (viewBehind known) view

/-- What the view knows is what the state has. -/
def Agrees (view : Reg → Option Word) (s : State) : Prop := ∀ r v, view r = some v → s.reg r = v

/-- In EXMEM the data of a load is not there yet. -/
def MicroOp.hasResult (u : MicroOp) : Bool := !u.flag Decoded.isLoad

/-- What forwarding knows of the registers behind EXMEM. -/
def State.forwardView (m : State) : Reg → Option Word :=
  viewAfter MicroOp.hasResult (viewAfter (fun _ => true) (fun r => some (m.reg r)) m.memwb.lanes) m.exmem.lanes

section View

variable {known : MicroOp → Bool} {view : Reg → Option Word} {r : Reg}

theorem viewAfter_append (l l' : Lanes) : viewAfter known view (l ++ l') = viewAfter known (viewAfter known view l) l' :=
  List.foldl_append

theorem viewAfter_of_none {l : Lanes} (h : ∀ p, some p ∈ l → p.produces r = false) :
    viewAfter known view l r = view r := by
  induction l generalizing view with
  | nil => rfl
  | cons slot rest ih =>
    have hslot : viewBehind known view slot r = view r := by
      cases slot with
      | none => rfl
      | some u => simp [viewBehind, h u List.mem_cons_self]
    exact (ih fun p hp => h p (List.mem_cons_of_mem _ hp)).trans hslot

theorem viewAfter_of_last {pre post : Lanes} {q : MicroOp} (hq : q.produces r = true)
    (hpost : ∀ p, some p ∈ post → p.produces r = false) :
    viewAfter known view (pre ++ some q :: post) r = if known q = true then some q.result else none := by
  rw [viewAfter_append]
  exact (viewAfter_of_none hpost).trans (if_pos hq)

/-- Forwarding answers what the view knows. -/
theorem State.forward_eq (m : State) (r : Reg) : m.forward r = (m.forwardView r).map Source.val := by
  unfold State.forwardView
  rcases youngestFrom_cases r 0 m.exmem.lanes with ⟨-, hex⟩ | ⟨pre, q, post, hl, hq, hpost, -⟩
  · rw [viewAfter_of_none hex]
    rcases youngestFrom_cases r 0 m.memwb.lanes with ⟨-, hwb⟩ | ⟨pre, q, post, hl, hq, hpost, -⟩
    · rw [viewAfter_of_none hwb, State.forward_of_register hex hwb]
      rfl
    · rw [State.forward_of_memwb hex hl hq hpost, hl, viewAfter_of_last hq hpost]
      rfl
  · rw [State.forward_of_exmem hl hq hpost, hl, viewAfter_of_last hq hpost, MicroOp.hasResult]
    cases q.flag Decoded.isLoad <;> rfl

/-- The step of a record, seen in its micro-op. -/
theorem Agrees.step {s : State} {u : MicroOp} {d : Decoded} (h : Agrees view s) (hf : u.fault = none)
    (hd : u.dec = some d) (hreg : d.Regular) (hs : d.serial = false) (hr : ¬ s.accessFaults d)
    (hv : known u = true → d.regWrite = true → u.result = s.rdValue d) :
    Agrees (viewBehind known view (some u)) (s.recordStep d) := by
  intro r v hview
  have hregs : (s.recordStep d).reg r = if d.regWrite = true ∧ r = d.rd ∧ r ≠ 0 then s.rdValue d else s.reg r := by
    rw [State.recordStep_of_plain hreg hs hr]
    cases hw : d.regWrite with
    | true => simpa using State.reg_of_writeRegs (s := s) (rd := d.rd) (v := s.rdValue d) (by simp) r
    | false => simp [State.reg]
  rw [hregs]
  by_cases hp : u.produces r = true
  · obtain ⟨-, hr0, d', hd', hw, hrd⟩ := (u.produces_iff r).1 hp
    obtain rfl := Option.some.inj (hd.symm.trans hd')
    rw [if_pos ⟨hw, hrd.symm, hr0⟩]
    simp only [viewBehind, hp, if_true] at hview
    split_ifs at hview with hk
    rw [← hv hk hw]
    exact Option.some.inj hview
  · rw [if_neg fun hw => hp ((u.produces_iff r).2 ⟨hf, hw.2.2, d, hd, hw.1, hw.2.1.symm⟩)]
    simp only [viewBehind, hp] at hview
    exact h r v hview

/-- A walk whose every step is seen in its micro-op ends in a state that agrees with the view behind the lanes. -/
theorem Walk.along_agrees {w : Walk} {l : Lanes} {s : State} {k : State → Prop}
    (hw : ∀ s u view, w.ok s u → w.goes s u → Agrees view s → Agrees (viewBehind known view (some u)) (w.next s u))
    (h : w.Along l s k) (hview : Agrees view s) : w.Along l s fun t => k t ∧ Agrees (viewAfter known view l) t := by
  induction l generalizing s view with
  | nil => exact ⟨h, hview⟩
  | cons slot rest ih =>
    cases slot with
    | none => exact ih h hview
    | some u => exact ⟨h.1, fun hg => ih (h.2 hg) (hw s u view h.1 hg hview)⟩

theorem Committable.agrees {s : State} {u : MicroOp} (h : Committable s u) (hg : GoesOn s u) (hview : Agrees view s) :
    Agrees (viewBehind (fun _ => true) view (some u)) (s.after u) := by
  rcases h with ⟨e, hf, -⟩ | ⟨d, hd, -⟩
  · simp [hg.1] at hf
  · obtain ⟨hs, hr⟩ := hg.2 d hd.dec
    rw [State.after_of_dec hd.dec]
    exact hview.step hd.fault hd.dec hd.regular hs hr fun _ hw => hd.value hw

theorem Executed.agrees {s : State} {u : MicroOp} {d : Decoded} (h : Executed s u d) (hs : d.serial = false)
    (hr : ¬ s.accessFaults d) (hview : Agrees view s) :
    Agrees (viewBehind MicroOp.hasResult view (some u)) (s.recordStep d) := by
  refine hview.step h.fault h.dec h.regular hs hr fun hk _ => ?_
  rw [MicroOp.hasResult, u.flag_of_some _ d h.dec] at hk
  rw [h.result, State.rdValue, if_neg (by simpa using hk)]

theorem ExecutedAt.agrees {s : State} {u : MicroOp} (h : ExecutedAt s u) (hg : GoesOn s u) (hview : Agrees view s) :
    Agrees (viewBehind MicroOp.hasResult view (some u)) (s.after u) := by
  obtain ⟨d, he, hs, hr, hafter⟩ := h.plain hg
  rw [hafter]
  exact he.agrees hs hr hview

/-- Where the walk over MEMWB and EXMEM arrives, forwarding is right. -/
theorem along_forwardView {s m : State} {k : State → Prop} (hregs : m.regs = s.regs)
    (h : Walk.commit.Along m.memwb.lanes s fun r => Walk.execute.Along m.exmem.lanes r k) :
    Walk.commit.Along m.memwb.lanes s fun r =>
      Walk.execute.Along m.exmem.lanes r fun r' => k r' ∧ Agrees m.forwardView r' := by
  have hstart : Agrees (fun r => some (m.reg r)) s := fun r v hv => by
    rw [← Option.some.inj hv, State.reg_congr hregs]
  exact (Walk.along_agrees (fun _ _ _ => Committable.agrees) h hstart).imp fun _ ⟨hex, hview⟩ =>
    Walk.along_agrees (fun _ _ _ => ExecutedAt.agrees) hex hview

end View

end Sys2Proof.Machine

/-!
PROOF. Decode in tandem with the reference (spec/40_pipeline_cycle.md R82 to R84, spec/41_hazards_and_flush.md R100 to
R107): every operand an issued micro-op gets, from the latches, from a lane of its own bundle or from the register file, is
the one the reference's step reads.
-/

namespace Sys2Proof.Machine

/-! ## The operands of an issued lane -/

/-- The lanes that Execute has made of the first `k` micro-ops of a bundle. -/
structure ExecutedUpTo (done : Lanes) (ops : List MicroOp) (k : Nat) : Prop where
  length : done.length = k
  le : k ≤ ops.length
  lane : ∀ j q, j < k → ops[j]? = some q → ∃ e, done[j]? = some (some e) ∧ e.fault = q.fault ∧ e.dec = q.dec

/-- A micro-op with the same record and error produces the same registers. -/
theorem MicroOp.produces_congr {e q : MicroOp} (hf : e.fault = q.fault) (hd : e.dec = q.dec) (r : Reg) :
    e.produces r = q.produces r := by
  rw [Bool.eq_iff_iff, e.produces_iff, q.produces_iff, hf, hd]

section Operand

variable {done : Lanes} {ops : List MicroOp} {k : Nat} {m s : State}

theorem ExecutedUpTo.nil (ops : List MicroOp) : ExecutedUpTo [] ops 0 := ⟨rfl, Nat.zero_le _, fun _ _ h => by omega⟩

theorem ExecutedUpTo.snoc (h : ExecutedUpTo done ops k) {e q : MicroOp} (hq : ops[k]? = some q) (hf : e.fault = q.fault)
    (hd : e.dec = q.dec) : ExecutedUpTo (done ++ [some e]) ops (k + 1) where
  length := by simp [h.length]
  le := (List.getElem?_eq_some_iff.1 hq).1
  lane j p hj hp := by
    rcases Nat.lt_succ_iff_lt_or_eq.1 hj with hj | rfl
    · obtain ⟨e', he', hsame⟩ := h.lane j p hj hp
      exact ⟨e', by rw [List.getElem?_append_left (by rw [h.length]; exact hj), he'], hsame⟩
    · obtain rfl := Option.some.inj (hq.symm.trans hp)
      exact ⟨e, by rw [← h.length, List.getElem?_concat_length], hf, hd⟩

/-- A lane of the bundle that is done. -/
theorem ExecutedUpTo.of_getElem (h : ExecutedUpTo done ops k) {j : Nat} {p : MicroOp} (hp : done[j]? = some (some p)) :
    j < k ∧ ∃ q, ops[j]? = some q ∧ p.fault = q.fault ∧ p.dec = q.dec := by
  have hj : j < k := h.length ▸ (List.getElem?_eq_some_iff.1 hp).1
  obtain ⟨e, he, hf, hd⟩ := h.lane j _ hj (List.getElem?_eq_getElem (hj.trans_le h.le))
  obtain rfl := Option.some.inj (Option.some.inj (he.symm.trans hp))
  exact ⟨hj, _, List.getElem?_eq_getElem (hj.trans_le h.le), hf, hd⟩

/-- Nothing in the bundle produces the register. -/
theorem ExecutedUpTo.view_of_none (h : ExecutedUpTo done ops k) {r : Reg}
    (hyoung : youngest r ((ops.take k).map some) = none) {view : Reg → Option Word} :
    viewAfter MicroOp.hasResult view done r = view r := by
  refine viewAfter_of_none fun p hp => ?_
  obtain ⟨j, hj⟩ := List.mem_iff_getElem?.1 hp
  obtain ⟨hjk, q, hq, hf, hd⟩ := h.of_getElem hj
  rw [MicroOp.produces_congr hf hd]
  rcases youngestFrom_cases r 0 ((ops.take k).map some) with ⟨-, hall⟩ | ⟨pre, q', post, -, -, -, hsome⟩
  · exact hall q (List.mem_map_of_mem (List.mem_of_getElem? (i := j) (by rwa [List.getElem?_take_of_lt hjk])))
  · rw [youngest, hsome] at hyoung
    cases hyoung

/-- The youngest producer in the bundle is no load: its result is known. -/
theorem ExecutedUpTo.view_of_youngest (h : ExecutedUpTo done ops k) {r : Reg} {j : Nat} {q : MicroOp}
    (hy : YoungestBefore ops k j r) (hq : ops[j]? = some q) (hl : q.flag Decoded.isLoad = false)
    (view : Reg → Option Word) :
    ∃ e, done[j]? = some (some e) ∧ viewAfter MicroOp.hasResult view done r = some e.result := by
  obtain ⟨hjk, ⟨q', hq', hprod⟩, hlast⟩ := hy
  obtain rfl := Option.some.inj (hq.symm.trans hq')
  obtain ⟨e, he, hf, hd⟩ := h.lane j q hjk hq
  have hresult : e.hasResult = true := by
    simp only [MicroOp.hasResult, MicroOp.flag, hd] at hl ⊢
    rw [hl]
    rfl
  obtain ⟨hj, hget⟩ := List.getElem?_eq_some_iff.1 he
  have hsplit : done = done.take j ++ some e :: done.drop (j + 1) := by
    rw [← hget, ← List.drop_eq_getElem_cons hj, List.take_append_drop]
  refine ⟨e, he, ?_⟩
  rw [hsplit, viewAfter_of_last ((MicroOp.produces_congr hf hd r).trans hprod) fun p hp => ?_, if_pos hresult]
  obtain ⟨i, hi⟩ := List.mem_iff_getElem?.1 hp
  rw [List.getElem?_drop] at hi
  obtain ⟨hik, q', hq', hf', hd'⟩ := h.of_getElem hi
  rw [MicroOp.produces_congr hf' hd']
  exact hlast _ q' (by omega) hik hq'

/-- Every operand source that Decode gives a lane gives the value of the register where the walk has arrived (R101, R103,
R105). -/
theorem operandFrom_of_resolve {c : Config} {reads : Option Reg} {l : LaneSource} {src : Source}
    (h : ExecutedUpTo done ops k) (hview : Agrees (viewAfter MicroOp.hasResult m.forwardView done) s)
    (hfrom : ComesFrom ops k reads l)
    (hpermitted : ∀ r j, reads = some r → YoungestBefore ops k j r → Permitted c ops k j)
    (hres : m.resolve reads l = some src) : OperandFrom done src ((reads.map s.reg).getD 0) := by
  cases reads with
  | none => exact .inl (Option.some.inj hres).symm
  | some r =>
    obtain ⟨hlane, houtside⟩ := hfrom r rfl
    rcases youngest_take_cases ops k r with ⟨hnone, hno⟩ | ⟨j, q, -, hq, hy⟩
    · rw [houtside hno] at hres
      have hforward : m.forward r = some src := hres
      rw [State.forward_eq, Option.map_eq_some_iff] at hforward
      obtain ⟨v, hv, rfl⟩ := hforward
      exact .inl (congrArg Source.val (hview r v ((h.view_of_none hnone).trans hv)).symm)
    · rw [hlane j hy] at hres
      obtain ⟨⟨q', hq', hl⟩, -⟩ := hpermitted r j rfl hy
      obtain rfl := Option.some.inj (hq.symm.trans hq')
      obtain ⟨e, he, hknown⟩ := h.view_of_youngest hy hq hl m.forwardView
      exact .inr ⟨j, e, (Option.some.inj hres).symm, he, (hview r e.result hknown).symm⟩

end Operand

/-- An operand that is not read, or reads x0, is 0. -/
theorem State.getD_reg (s : State) (reads : Bool) (r : Reg) :
    ((if (reads && r != 0) = true then some r else none).map s.reg).getD 0 = if reads = true then s.reg r else 0 := by
  cases reads with
  | false => rfl
  | true =>
    by_cases hr : r = 0
    · rw [hr]
      exact s.reg_zero.symm
    · rw [if_pos (by simpa using hr)]
      rfl

theorem MicroOp.readsA_value {u : MicroOp} {d : Decoded} (hf : u.fault = none) (hd : u.dec = some d) (s : State) :
    (u.readsA.map s.reg).getD 0 = s.operandA d := by
  have hreads : u.readsA = if (d.readsRs1 && d.rs1 != 0) = true then some d.rs1 else none := by
    simp only [MicroOp.readsA, hd, u.clean_iff.2 hf, Bool.true_and]
  rw [hreads, s.getD_reg]
  rfl

theorem MicroOp.readsB_value {u : MicroOp} {d : Decoded} (hf : u.fault = none) (hd : u.dec = some d) (s : State) :
    (u.readsB.map s.reg).getD 0 = s.operandB d := by
  have hreads : u.readsB = if (d.readsRs2 && d.rs2 != 0) = true then some d.rs2 else none := by
    simp only [MicroOp.readsB, hd, u.clean_iff.2 hf, Bool.true_and]
  rw [hreads, s.getD_reg]
  rfl

/-! ## The issued lanes -/

/-- Lane `k` of what Decode issues from the bundle `ops`: its micro-op, with operand sources and a mark. -/
structure IssuedLane (m : State) (ops : List MicroOp) (k : Nat) (q v : MicroOp) : Prop where
  issued : IssuedAs q v
  operandA : ∀ {done s}, ExecutedUpTo done ops k → Agrees (viewAfter MicroOp.hasResult m.forwardView done) s →
    OperandFrom done v.srcA ((q.readsA.map s.reg).getD 0)
  operandB : ∀ {done s}, ExecutedUpTo done ops k → Agrees (viewAfter MicroOp.hasResult m.forwardView done) s →
    OperandFrom done v.srcB ((q.readsB.map s.reg).getD 0)

theorem State.issuedLane_of_bundle {m : State} {ops us : List MicroOp} {n k : Nat} {v : MicroOp}
    (hl : m.ifid.lanes = ops.map some ++ bubbles n)
    (h : m.resolveAll (planLanes m.cfg [] false m.ifid.lanes) = some us) (hv : us[k]? = some v) :
    ∃ q, ops[k]? = some q ∧ IssuedLane m ops k q v := by
  rw [hl] at h
  obtain ⟨hlen, hsplit, -, -, hlane⟩ := splitPointIsTheFirstObstacle m.cfg ops n
  have hissued := State.resolveAll_issued h
  obtain ⟨hk, rfl⟩ := List.getElem?_eq_some_iff.1 hv
  have hkp : k < (planLanes m.cfg [] false (ops.map some ++ bubbles n)).length := hissued.length_eq ▸ hk
  have hko : k < ops.length := hkp.trans_le hlen
  obtain ⟨hop, hA, hB⟩ := hlane k _ _ (List.getElem?_eq_getElem hkp) (List.getElem?_eq_getElem hko)
  obtain ⟨a, b, ha, hb, hu⟩ := hissued.get hkp hk
  rw [List.get_eq_getElem, hop] at ha hb
  rw [List.get_eq_getElem, List.get_eq_getElem, hop] at hu
  have permitted : ∀ r j, (ops[k].readsA = some r ∨ ops[k].readsB = some r) → YoungestBefore ops k j r →
      Permitted m.cfg ops k j := fun r j hr hy => by
    by_contra hno
    exact hsplit k hkp (.inr ⟨_, r, j, List.getElem?_eq_getElem hko, hr, hy, hno⟩)
  refine ⟨ops[k], List.getElem?_eq_getElem hko, ⟨fusedAt m.cfg ops k, a, b, hu⟩, fun hdone hview => ?_,
    fun hdone hview => ?_⟩ <;> rw [hu]
  · exact operandFrom_of_resolve hdone hview hA (fun r j hr => permitted r j (.inl hr)) ha
  · exact operandFrom_of_resolve hdone hview hB (fun r j hr => permitted r j (.inr hr)) hb

/-- Execute of an issued micro-op keeps what Fetch and the Decoder gave it. -/
theorem IssuedAs.executeOp_keeps {q v : MicroOp} (h : IssuedAs q v) (done : Lanes) :
    (executeOp done v).pc = q.pc ∧ (executeOp done v).fault = q.fault ∧ (executeOp done v).dec = q.dec ∧
      (executeOp done v).followedPc = q.followedPc := by
  obtain ⟨f, a, b, rfl⟩ := h
  obtain ⟨r, w, t, g, he⟩ := Machine.executeOp_keeps done { q with fusedPrev := f, srcA := a, srcB := b }
  rw [he]
  exact ⟨rfl, rfl, rfl, rfl⟩

/-- Execute of an issued lane at the reference's pc. -/
theorem IssuedLane.executedAt {m s : State} {ops : List MicroOp} {k : Nat} {q v : MicroOp} {done : Lanes}
    (h : IssuedLane m ops k q v) (hcoh : Coherent m q) (hpc : q.pc = s.pc) (hdone : ExecutedUpTo done ops k)
    (hview : Agrees (viewAfter MicroOp.hasResult m.forwardView done) s) : ExecutedAt s (executeOp done v) := by
  obtain ⟨hpc', hf', -, -⟩ := h.issued.executeOp_keeps done
  refine ⟨hpc'.trans hpc, fun hf => ?_⟩
  rw [hf'] at hf
  obtain ⟨d, hd, hreg, hlen⟩ := hcoh.record hf
  have hA := h.operandA hdone hview
  have hB := h.operandB hdone hview
  rw [MicroOp.readsA_value hf hd] at hA
  rw [MicroOp.readsB_value hf hd] at hB
  refine ⟨d, ?_⟩
  obtain ⟨f, a, b, rfl⟩ := h.issued
  exact executeOp_executed hf hd hreg hlen hpc hA hB

/-- The issued lanes from lane `k` on walk along the reference, and what is left of the bundle is the path behind them. -/
theorem issuedLanes_along {m s : State} {ops us : List MicroOp} {n k : Nat} {l : List MicroOp} {done : Lanes}
    (hlanes : m.ifid.lanes = ops.map some ++ bubbles n)
    (hus : m.resolveAll (planLanes m.cfg [] false m.ifid.lanes) = some us) (hcoh : ∀ q ∈ ops, Coherent m q)
    (hl : us.drop k = l) (hk : k + l.length = us.length) (hdone : ExecutedUpTo done ops k)
    (hview : Agrees (viewAfter MicroOp.hasResult m.forwardView done) s) {p : Word}
    (hpath : FetchPath ((ops.drop k).map some ++ bubbles n) s.pc p) :
    Walk.issue.Along (executedLanes done (l.map some)) s fun r =>
      FetchPath ((ops.drop us.length).map some ++ bubbles n) r.pc p := by
  induction l generalizing k done s with
  | nil =>
    obtain rfl : k = us.length := by simpa using hk
    exact hpath
  | cons v rest ih =>
    have hv : us[k]? = some v := by rw [← List.head?_drop, hl, List.head?_cons]
    have hrest : us.drop (k + 1) = rest := by rw [← List.tail_drop, hl, List.tail_cons]
    obtain ⟨q, hq, hlane⟩ := State.issuedLane_of_bundle hlanes hus hv
    obtain ⟨hko, rfl⟩ := List.getElem?_eq_some_iff.1 hq
    rw [List.drop_eq_getElem_cons hko] at hpath
    obtain ⟨hpc, hpath⟩ := hpath
    have hok := hlane.executedAt (hcoh _ (List.getElem_mem hko)) hpc hdone hview
    obtain ⟨-, hf, hd, hfollow⟩ := hlane.issued.executeOp_keeps done
    refine ⟨hok, fun hg => ih hrest (by rw [List.length_cons] at hk; omega) (hdone.snoc hq hf hd) ?_ ?_⟩
    · rw [viewAfter_append]
      exact hok.agrees hg hview
    · change FetchPath _ (executeOp done v).followedPc p
      rw [hfollow]
      exact hpath (hf.symm.trans hg.1)

/-! ## Decode -/

/-- DecodeStage in tandem: the issued lanes walk along the reference to where Fetch goes on, or the stage stalls and the
bundle stays the path. -/
theorem State.decodeStage_along {m s : State} (hpacked : lanesPacked m.ifid.lanes = true)
    (hcoh : ∀ q, some q ∈ m.ifid.lanes → Coherent m q) (hpath : FetchPath m.ifid.lanes s.pc m.pc)
    (hview : Agrees m.forwardView s) :
    (m.decodeStage.fetchMode = m.fetchMode ∧
        Walk.issue.Along (executeLanes [] m.decodeStage.idex.lanes) s fun r => m.decodeStage.pc = r.pc) ∨
      m.decodeStage = m.stallDecode := by
  rcases m.decodeStage_cases with ⟨-, hd⟩ | ⟨us, hus, hd⟩
  · exact .inr hd
  obtain ⟨ops, n, hl⟩ := (lanesPacked_iff _).1 hpacked
  have hcoh' : ∀ q ∈ ops, Coherent m q := fun q hq =>
    hcoh q (by rw [hl]; exact List.mem_append_left _ (List.mem_map_of_mem hq))
  rw [hl] at hpath
  have hwalk := issuedLanes_along hl hus hcoh' (l := us) (k := 0) rfl (Nat.zero_add _) (.nil ops) hview hpath
  refine .inl ⟨by rw [hd, State.issue_fetchMode], ?_⟩
  rw [hd, State.issue_idex, Latch.withLanes_lanes, packLanes, executeLanes_eq, List.nil_append,
    executedLanes_append_bubbles, Walk.along_append_bubbles]
  refine hwalk.imp fun r hr => ?_
  by_cases hlen : us.length < ops.length
  · have hlast : m.ifid.lanes[us.length]? = some (some ops[us.length]) := by
      rw [hl, packed_getElem? n hlen, List.getElem?_eq_getElem hlen]
    rw [List.drop_eq_getElem_cons hlen] at hr
    obtain ⟨hpc, -⟩ := hr
    exact (State.issue_split hlast).1.trans hpc
  · have hpc := (State.issue_whole (s := m) (us := us) fun slot hslot => by
      rw [hl] at hslot
      exact eq_none_of_packed_getElem? (Nat.le_of_not_lt hlen) hslot).1
    rw [List.drop_eq_nil_of_le (Nat.le_of_not_lt hlen)] at hr
    exact hpc.trans ((fetchPath_bubbles n _ _).1 hr)

end Sys2Proof.Machine

/-!
PROOF. Tandem equivalence (spec/70_reset_and_hazards.md R265): the invariant that ties the block to the sequential
reference holds from the launch on, every cycle keeps it, and where a cycle ends the run it ends as the reference does.
-/

namespace Sys2Proof.Machine

/-! ## The invariant -/

/-- Behind a state of the reference, IFID is the path to pc. -/
def State.fetchPath (m r : State) : Prop := FetchPath m.ifid.lanes r.pc m.pc

/-- Behind a state of the reference, IDEX walks on as Execute will have it, and IFID is the path to pc. -/
def State.issuePath (m r : State) : Prop := Walk.issue.Along (executeLanes [] m.idex.lanes) r m.fetchPath

/-- The block has committed up to the reference state `s`, and MEMWB walks on to where `path` holds. -/
structure InStep (s m : State) (path : State → Prop) : Prop where
  running : s.status = .running
  running' : m.status = .running
  plat : m.plat = s.plat
  regs : m.regs = s.regs
  out : m.out = s.out
  mem : m.mem = storesDone m.memwb.lanes s.mem
  along : Walk.commit.Along m.memwb.lanes s path

/-- Every micro-op of the lanes is what memory holds at its address. -/
def State.Holds (m : State) (l : Lanes) : Prop := ∀ u, some u ∈ l → Coherent m u

/-- The block is in tandem with the reference state `s`: between two cycles. -/
structure Tandem (s m : State) : Prop where
  inStep : InStep s m fun r => Walk.execute.Along m.exmem.lanes r m.issuePath
  holds : m.Holds (m.exmem.lanes ++ (m.idex.lanes ++ m.ifid.lanes))

/-- The same behind Writeback, which has committed MEMWB. -/
structure AfterWriteback (s m : State) : Prop where
  running : s.status = .running
  running' : m.status = .running
  view : SameView s m
  along : Walk.execute.Along m.exmem.lanes s m.issuePath
  holds : m.Holds (m.exmem.lanes ++ (m.idex.lanes ++ m.ifid.lanes))

section Basics

variable {s m m' : State} {path path' : State → Prop}

theorem State.fetchPath_of_empty (h : AllBubbles m.ifid.lanes) {r : State} (hpc : m.pc = r.pc) : m.fetchPath r := by
  rw [State.fetchPath, List.eq_replicate_iff.2 ⟨rfl, h⟩]
  exact (fetchPath_bubbles _ _ _).2 hpc

theorem State.issuePath_of_empty (hidex : AllBubbles m.idex.lanes) {r : State} : m.issuePath r ↔ m.fetchPath r := by
  rw [State.issuePath, executeLanes_of_allBubbles hidex, List.nil_append]
  exact Walk.along_of_allBubbles hidex _ _

theorem State.holds_of_allBubbles {l : Lanes} (h : AllBubbles l) : m.Holds l := fun u hu => by cases h _ hu

theorem State.holds_append {l l' : Lanes} : m.Holds (l ++ l') ↔ m.Holds l ∧ m.Holds l' :=
  ⟨fun h => ⟨fun u hu => h u (List.mem_append_left _ hu), fun u hu => h u (List.mem_append_right _ hu)⟩,
    fun h u hu => (List.mem_append.1 hu).elim (h.1 u) (h.2 u)⟩

theorem State.Holds.congr {l : Lanes} (h : m.Holds l) (hplat : m'.plat = m.plat) (hmem : m'.mem = m.mem) : m'.Holds l :=
  fun u hu => (h u hu).congr hplat hmem

/-- What the stages from Execute to Fetch leave: the architectural state and MEMWB. -/
structure SameCommitted (m m' : State) : Prop where
  status : m'.status = m.status
  plat : m'.plat = m.plat
  regs : m'.regs = m.regs
  out : m'.out = m.out
  mem : m'.mem = m.mem
  memwb : m'.memwb = m.memwb

theorem InStep.congr (h : InStep s m path) (hm : SameCommitted m m') (hpath : ∀ r, path r → path' r) :
    InStep s m' path' where
  running := h.running
  running' := hm.status.trans h.running'
  plat := hm.plat.trans h.plat
  regs := hm.regs.trans h.regs
  out := hm.out.trans h.out
  mem := by rw [hm.mem, hm.memwb, h.mem]
  along := by
    rw [hm.memwb]
    exact h.along.imp hpath

end Basics

/-! ## Stage by stage -/

section Stages

variable {s m : State}

theorem AfterWriteback.memoryStage (h : AfterWriteback s m) (hserial : serialLast m.exmem.lanes = true) :
    InStep s m.memoryStage m.memoryStage.issuePath ∧
      m.memoryStage.Holds (m.memoryStage.idex.lanes ++ m.memoryStage.ifid.lanes) := by
  have hout := memoryLanes_along h.along hserial h.view.plat h.view.mem h.holds
  obtain ⟨-, -, hplat, -, hregs, hout', hstatus, -⟩ := memoryLanes_keeps m.exmem.lanes m .reference
  have hlanes : m.memoryStage.memwb.lanes = (memoryLanes m.exmem.lanes m).1 := rfl
  have step (halong : Walk.commit.Along (memoryLanes m.exmem.lanes m).1 s m.memoryStage.issuePath) :
      InStep s m.memoryStage m.memoryStage.issuePath :=
    ⟨h.running, hstatus.trans h.running', hplat.trans h.view.plat, hregs.trans h.view.regs, hout'.trans h.view.out,
      hout.mem, halong⟩
  rcases hout.outcome with ⟨⟨mem, ht⟩, hl, hcoh⟩ | ⟨hid, hif, hl⟩
  · have hidex : m.memoryStage.idex = m.idex := (congrArg State.idex ht :)
    have hifid : m.memoryStage.ifid = m.ifid := (congrArg State.ifid ht :)
    have hpc : m.memoryStage.pc = m.pc := (congrArg State.pc ht :)
    have hpath : m.memoryStage.issuePath = m.issuePath := by
      funext r
      unfold State.issuePath State.fetchPath
      rw [hidex, hifid, hpc]
    refine ⟨step (by rw [hpath]; exact hl), ?_⟩
    rw [hidex, hifid]
    exact State.Holds.congr hcoh rfl rfl
  · have hidex : AllBubbles m.memoryStage.idex.lanes := by
      rw [show m.memoryStage.idex = m.idex.cleared from hid]
      exact allBubbles_cleared _
    have hifid : AllBubbles m.memoryStage.ifid.lanes := by
      rw [show m.memoryStage.ifid = m.ifid.cleared from hif]
      exact allBubbles_cleared _
    exact ⟨step (hl.imp fun r hr => (State.issuePath_of_empty hidex).2 (State.fetchPath_of_empty hifid hr)),
      State.holds_append.2 ⟨State.holds_of_allBubbles hidex, State.holds_of_allBubbles hifid⟩⟩

theorem InStep.executeStage (h : InStep s m m.issuePath) (hcoh : m.Holds (m.idex.lanes ++ m.ifid.lanes)) :
    InStep s m.executeStage
        (fun r => Walk.issue.Along m.executeStage.exmem.lanes r m.executeStage.fetchPath) ∧
      m.executeStage.Holds (m.executeStage.exmem.lanes ++ m.executeStage.ifid.lanes) := by
  obtain ⟨hidex, hifid⟩ := State.holds_append.1 hcoh
  refine ⟨h.congr ⟨rfl, rfl, rfl, rfl, rfl, rfl⟩ fun _ hr => hr, State.holds_append.2 ⟨fun u hu => ?_, hifid⟩⟩
  have hu' : some u ∈ executedLanes [] m.idex.lanes := by
    rw [← List.nil_append (executedLanes [] m.idex.lanes), ← executeLanes_eq]
    exact hu
  obtain ⟨v, done, hv, rfl⟩ := mem_executedLanes hu'
  exact (hidex v hv).executeOp done

theorem InStep.controlHazard (h : InStep s m fun r => Walk.issue.Along m.exmem.lanes r m.fetchPath)
    (hcoh : m.Holds (m.exmem.lanes ++ m.ifid.lanes)) :
    InStep s m.controlHazard (fun r => Walk.execute.Along m.controlHazard.exmem.lanes r m.controlHazard.fetchPath) ∧
      m.controlHazard.Holds (m.controlHazard.exmem.lanes ++ m.controlHazard.ifid.lanes) := by
  rcases m.controlHazard_cases with ⟨hp, ht⟩ | ⟨pre, u, rest, hl, hp, -, -, ht⟩ <;> rw [ht]
  · obtain ⟨c, g, st, hr⟩ := resolvedBy_keeps m.exmem.lanes m
    rw [hr]
    refine ⟨h.congr ⟨rfl, rfl, rfl, rfl, rfl, rfl⟩ fun r hpath => ?_, hcoh⟩
    have := hp.execute_along (l := []) (l' := []) (k' := m.fetchPath) (fun _ ht => ht) (by simpa using hpath)
    rwa [List.append_nil] at this
  · obtain ⟨c, g, st, hr⟩ := resolvedBy_keeps (pre ++ [some u]) m
    rw [hr]
    obtain ⟨hexmem, -⟩ := State.holds_append.1 hcoh
    refine ⟨h.congr ⟨rfl, rfl, rfl, rfl, rfl, rfl⟩ fun r hpath => ?_, State.holds_append.2 ⟨?_, ?_⟩⟩
    · rw [hl] at hpath
      refine hp.execute_along (fun t ht => ?_) hpath
      exact (ExecutedAt.execute_along ht.1 rest.length).imp fun r hr =>
        State.fetchPath_of_empty (allBubbles_cleared _) hr
    · refine State.Holds.congr (fun v hv => hexmem v ?_) rfl rfl
      rw [hl]
      rcases List.mem_append.1 hv with hv | hv
      · exact List.mem_append_left _ hv
      · rcases List.mem_cons.1 hv with hv | hv
        · rw [hv]
          exact List.mem_append_right _ List.mem_cons_self
        · exact absurd hv (not_mem_bubbles _ v)
    · exact State.holds_of_allBubbles (allBubbles_cleared _)

/-- A bundle is the path that Fetch followed. -/
theorem Bundle.fetchPath {window n used : Nat} {a b : Word} {us : List MicroOp} (h : Bundle m window n a used us b)
    (k : Nat) : FetchPath (us.map some ++ bubbles k) a b := by
  induction h with
  | full | windowEnd => exact (fetchPath_bubbles k _ _).2 rfl
  | fault => exact ⟨rfl, fun hf => by cases hf⟩
  | redirect n a used len word hf hw ht =>
    refine ⟨m.fetchedOp_pc .., fun _ => (fetchPath_bubbles k _ _).2 ?_⟩
    rw [MicroOp.followedPc, if_pos ht]
  | next n a used len word us b hf hw ht rest ih =>
    refine ⟨m.fetchedOp_pc .., fun _ => ?_⟩
    rwa [MicroOp.followedPc, if_neg (by simp [ht]), MicroOp.nextPc, m.fetchedOp_pc, m.fetchedOp_len]

theorem Bundle.holds {window n used : Nat} {a b : Word} {us : List MicroOp} (h : Bundle m window n a used us b) (k : Nat) :
    m.Holds (us.map some ++ bubbles k) := by
  refine State.holds_append.2 ⟨fun u hu => ?_, State.holds_of_allBubbles (allBubbles_bubbles k)⟩
  obtain ⟨v, hv, huv⟩ := List.mem_map.1 hu
  obtain rfl := Option.some.inj huv
  rcases h.mem_cases hv with ⟨hf, h⟩ | ⟨c, len, word, hf, rfl⟩
  · exact .inl ⟨hf, by rw [h]; rfl⟩
  · refine .inr ⟨?_, m.fetchedOp_decodedAs c len word⟩
    rwa [m.fetchedOp_pc, m.fetchedOp_len, m.fetchedOp_word]

/-- Fetch in tandem, from where the issued lanes arrive at pc. -/
theorem InStep.fetchStage (h : InStep s m fun r =>
      Walk.execute.Along m.exmem.lanes r fun r' => Walk.issue.Along (executeLanes [] m.idex.lanes) r' fun t => m.pc = t.pc)
    (hcoh : m.Holds (m.exmem.lanes ++ m.idex.lanes)) (hmode : m.fetchMode ≠ .hold) : Tandem s m.fetchStage := by
  obtain ⟨hexmem, hidex⟩ := State.holds_append.1 hcoh
  obtain ⟨ifid, pc, hpath, hholds, hf⟩ : ∃ ifid pc, FetchPath ifid.lanes m.pc pc ∧ m.Holds ifid.lanes ∧
      m.fetchStage = { m with ifid := ifid, pc := pc } := by
    cases hm : m.fetchMode with
    | hold => exact absurd hm hmode
    | bubble =>
      exact ⟨m.ifid.cleared, m.pc, (fetchPath_bubbles _ _ _).2 rfl, State.holds_of_allBubbles (allBubbles_cleared _), by
        simp [State.fetchStage, hm]⟩
    | run =>
      have hb := fetchLanes_bundle m (Config.fetchBytes m.cfg) m.cfg.width m.pc 0
      have hrun : m.fetchStage = m.fetchRun := State.fetchStage_run hm
      exact ⟨⟨packLanes m.cfg.width _, false⟩, _, hb.fetchPath _, hb.holds _, hrun.trans (by rw [← hm]; rfl)⟩
  rw [hf]
  refine ⟨h.congr ⟨rfl, rfl, rfl, rfl, rfl, rfl⟩ fun r hr => hr.imp fun r' hr' => hr'.imp fun t ht => ?_, ?_⟩
  · change FetchPath ifid.lanes t.pc pc
    rwa [← ht]
  · exact State.Holds.congr (State.holds_append.2 ⟨hexmem, State.holds_append.2 ⟨hidex, hholds⟩⟩) rfl rfl

/-- The micro-ops that are issued are what memory holds. -/
theorem State.decodeStage_holds (hpacked : lanesPacked m.ifid.lanes = true) (hcoh : m.Holds m.ifid.lanes) :
    m.Holds m.decodeStage.idex.lanes := by
  rcases m.decodeStage_cases with ⟨-, hd⟩ | ⟨us, hus, hd⟩ <;> rw [hd]
  · exact State.holds_of_allBubbles (allBubbles_cleared _)
  · obtain ⟨ops, n, hl⟩ := (lanesPacked_iff _).1 hpacked
    rw [State.issue_idex, Latch.withLanes_lanes]
    refine State.holds_append.2 ⟨fun u hu => ?_, State.holds_of_allBubbles (allBubbles_bubbles _)⟩
    obtain ⟨v, hv, huv⟩ := List.mem_map.1 hu
    obtain rfl := Option.some.inj huv
    obtain ⟨k, hk⟩ := List.mem_iff_getElem?.1 hv
    obtain ⟨q, hq, f, a, b, rfl⟩ := (State.issued_of_bundle hl hus).2.1 k _ hk
    exact hcoh q (by rw [hl]; exact List.mem_append_left _ (List.mem_map_of_mem (List.mem_of_getElem? hq)))

/-- Decode and Fetch in tandem. -/
theorem InStep.decodeFetch (h : InStep s m fun r => Walk.execute.Along m.exmem.lanes r m.fetchPath)
    (hcoh : m.Holds (m.exmem.lanes ++ m.ifid.lanes)) (hpacked : lanesPacked m.ifid.lanes = true)
    (hmode : m.fetchMode ≠ .hold) : Tandem s m.decodeStage.fetchStage := by
  obtain ⟨hexmem, hifid⟩ := State.holds_append.1 hcoh
  obtain ⟨idex, pc, n, fm, hkeeps⟩ := m.decodeStage_keeps
  have hsame : SameCommitted m m.decodeStage := by
    rw [hkeeps]
    exact ⟨rfl, rfl, rfl, rfl, rfl, rfl⟩
  have hexmem' : m.decodeStage.exmem = m.exmem := by rw [hkeeps]
  have hforward := along_forwardView h.regs h.along
  by_cases hstall : m.decodeStage = m.stallDecode
  · have hf : m.stallDecode.fetchStage = { m.stallDecode with ifid := ⟨m.ifid.lanes, true⟩ } := rfl
    rw [hstall, hf]
    refine ⟨h.congr ⟨rfl, rfl, rfl, rfl, rfl, rfl⟩ fun r hr => hr.imp fun t ht => ?_,
      State.Holds.congr (State.holds_append.2 ⟨hexmem, State.holds_append.2 ⟨?_, hifid⟩⟩) rfl rfl⟩
    · exact (State.issuePath_of_empty (allBubbles_cleared m.idex)).2 ht
    · exact State.holds_of_allBubbles (allBubbles_cleared _)
  · have hissue {r : State} (hpath : m.fetchPath r) (hview : Agrees m.forwardView r) :=
      (m.decodeStage_along hpacked hifid hpath hview).resolve_right hstall
    have hmode' : m.decodeStage.fetchMode ≠ .hold := by
      rcases m.decodeStage_cases with ⟨-, hd⟩ | ⟨us, -, hd⟩
      · exact absurd hd hstall
      · rwa [hd, State.issue_fetchMode]
    refine InStep.fetchStage (InStep.congr ⟨h.running, h.running', h.plat, h.regs, h.out, h.mem, hforward⟩ hsame
      fun r hr => ?_) (State.Holds.congr (State.holds_append.2 ⟨?_, ?_⟩) hsame.plat hsame.mem) hmode'
    · rw [hexmem']
      exact hr.imp fun t ht => (hissue ht.1 ht.2).2
    · rwa [hexmem']
    · exact State.decodeStage_holds hpacked hifid

/-- The stages behind Writeback, in tandem. -/
theorem AfterWriteback.laterStages (h : AfterWriteback s m) (hinv : m.Inv)
    (hinit : m.cfg.initCounter < 2 ^ m.cfg.counterBits) (hmode : m.fetchMode = .run) : Tandem s m.laterStages := by
  have hnohold : m.memoryStage.executeStage.fetchMode ≠ .hold := by
    obtain ⟨-, -, -, -, -, hmode', -⟩ := m.memoryStage_effect .reference
    rw [show m.memoryStage.executeStage.fetchMode = .run from hmode'.trans hmode]
    decide
  have hcfg : m.memoryStage.executeStage.cfg = m.cfg := (m.memoryStage_sameSetup .reference).cfg
  have hinv' := hinv.memoryStage.executeStage.controlHazard (by rwa [hcfg]) hnohold
  obtain ⟨_, _, _, -, -, -, -, -, -, -, hmode'⟩ := m.memoryStage.executeStage.controlHazard_effect
  obtain ⟨hmem, hmemHolds⟩ := h.memoryStage hinv.serial.2.1
  obtain ⟨hex, hexHolds⟩ := hmem.executeStage hmemHolds
  obtain ⟨hhaz, hhazHolds⟩ := hex.controlHazard hexHolds
  exact hhaz.decodeFetch hhazHolds hinv'.ifid.packed (hmode' hnohold)

end Stages

/-! ## A cycle -/

section Cycle

variable {s m : State}

/-- Writeback in tandem: the reference moves on over what retires, or the run ends as the reference does. -/
theorem Tandem.writebackStage (h : Tandem s m) (hinv : m.Inv) :
    ∃ n, m.beginCycle.writebackStage.metrics.isaRetired = m.metrics.isaRetired + n ∧
      (AfterWriteback (State.advance^[n] s) m.beginCycle.writebackStage ∨
        (m.beginCycle.writebackStage.status ≠ .running ∧
          SameArchitecture (State.advance^[n + 1] s) m.beginCycle.writebackStage)) := by
  obtain ⟨h, hholds⟩ := h
  have hplat := (retireLanes_keeps m.memwb.lanes m.beginCycle).2.1
  rcases retireLanes_along (m := m.beginCycle) h.along hinv.serial.2.2 h.running h.running' h.plat h.regs h.out h.mem with
    ⟨n, hs, ht, hview, hcount, ⟨hex, hid, hif, hpc, hmem⟩, hk⟩ | ⟨n, hs, ht, hview, hcount, ⟨hex, hid, hif⟩, hpc⟩ |
    ⟨n, ht, hcount, harch⟩
  · refine ⟨n, hcount, .inl ⟨hs, ht, hview, ?_, ?_⟩⟩
    · have hpath : m.beginCycle.writebackStage.issuePath = m.issuePath := by
        funext r
        change Walk.issue.Along (executeLanes [] (retireLanes m.memwb.lanes m.beginCycle).idex.lanes) r
          (retireLanes m.memwb.lanes m.beginCycle).fetchPath = _
        unfold State.fetchPath
        rw [hid, hif, hpc]
        rfl
      rw [hpath, show m.beginCycle.writebackStage.exmem = m.exmem from hex]
      exact hk
    · rw [show m.beginCycle.writebackStage.exmem = m.exmem from hex,
        show m.beginCycle.writebackStage.idex = m.idex from hid,
        show m.beginCycle.writebackStage.ifid.lanes = m.ifid.lanes from (congrArg Latch.lanes hif :)]
      exact hholds.congr hplat hmem
  · have hexmem : AllBubbles m.beginCycle.writebackStage.exmem.lanes := by
      rw [show m.beginCycle.writebackStage.exmem = _ from hex]
      exact allBubbles_cleared _
    have hidex : AllBubbles m.beginCycle.writebackStage.idex.lanes := by
      rw [show m.beginCycle.writebackStage.idex = _ from hid]
      exact allBubbles_cleared _
    have hifid : AllBubbles m.beginCycle.writebackStage.ifid.lanes := by
      rw [show m.beginCycle.writebackStage.ifid = _ from hif]
      exact allBubbles_cleared _
    refine ⟨n, hcount, .inl ⟨hs, ht, hview, (Walk.along_of_allBubbles hexmem _ _).2
      ((State.issuePath_of_empty hidex).2 (State.fetchPath_of_empty hifid hpc)), ?_⟩⟩
    exact State.holds_append.2 ⟨State.holds_of_allBubbles hexmem,
      State.holds_append.2 ⟨State.holds_of_allBubbles hidex, State.holds_of_allBubbles hifid⟩⟩
  · exact ⟨n, hcount, .inr ⟨ht, harch⟩⟩

/-- One cycle in tandem. -/
theorem Tandem.cycle (h : Tandem s m) (hinv : m.Inv) (hinit : m.cfg.initCounter < 2 ^ m.cfg.counterBits)
    (hb : m.metrics.cycles < m.cfg.budget) :
    ∃ n, m.cycle.metrics.isaRetired = m.metrics.isaRetired + n ∧
      (Tandem (State.advance^[n] s) m.cycle ∨
        (m.cycle.status ≠ .running ∧ SameArchitecture (State.advance^[n + 1] s) m.cycle)) := by
  obtain ⟨n, hcount, hafter | ⟨hend, harch⟩⟩ := h.writebackStage hinv
  · obtain ⟨hcfg, -, -, -, -, -, hmode, -⟩ := retireLanes_keeps m.memwb.lanes m.beginCycle
    have hmode' : m.beginCycle.writebackStage.fetchMode = .run := hmode
    have hinv' : m.beginCycle.writebackStage.Inv := retireLanes_inv (hinv.beginCycle hb) hinv.memwb.ops
    obtain ⟨_, _, _, _, _, _, -, -, -, -, -, hmetrics, -⟩ :=
      m.beginCycle.writebackStage.laterStages_effect .reference (by rw [hmode']; decide)
    rw [State.cycle_running hafter.running']
    refine ⟨n, by rw [hmetrics]; exact hcount, .inl (hafter.laterStages hinv' ?_ hmode')⟩
    rw [show m.beginCycle.writebackStage.cfg = m.cfg from hcfg]
    exact hinit
  · rw [State.cycle_ended hend]
    exact ⟨n, hcount, .inr ⟨hend, harch⟩⟩

end Cycle

/-! ## The run -/

section Run

variable {s m : State}

/-- A launched block is in tandem with the reference at the launch: nothing is in flight, and pc is the entry. -/
theorem tandem_of_launch {c : Config} {p : Platform} {given : List (Reg × Word)} {image : List Host.Cell}
    (h : launch .pipeline c p given image = .ok s) : Tandem s s := by
  obtain ⟨-, rfl⟩ := launch_cases h
  generalize hm : State.initial .pipeline c p (launchRegs given) (launchImage p image) = m
  have hempty : AllBubbles m.memwb.lanes ∧ AllBubbles m.exmem.lanes ∧ AllBubbles m.idex.lanes ∧
      AllBubbles m.ifid.lanes := by
    subst hm
    exact ⟨allBubbles_bubbles _, allBubbles_bubbles _, allBubbles_bubbles _, allBubbles_bubbles _⟩
  obtain ⟨hwb, hex, hid, hif⟩ := hempty
  have hstatus : m.status = .running := by rw [← hm]; rfl
  refine ⟨⟨hstatus, hstatus, rfl, rfl, rfl, ?_, ?_⟩, State.holds_append.2 ⟨State.holds_of_allBubbles hex,
    State.holds_append.2 ⟨State.holds_of_allBubbles hid, State.holds_of_allBubbles hif⟩⟩⟩
  · rw [List.eq_replicate_iff.2 ⟨rfl, hwb⟩]
    exact (storesDone_bubbles _ _).symm
  · exact (Walk.along_of_allBubbles hwb _ _).2 ((Walk.along_of_allBubbles hex _ _).2
      ((State.issuePath_of_empty hid).2 (State.fetchPath_of_empty hif rfl)))

/-- How a run of the block that starts in tandem with the reference run from `s` can end: as the reference does, which has
a step more than the instructions retired, or by the budget, still in tandem. -/
inductive RunEnd (s t : State) : Prop
  | ended (hs : t.status ≠ .notHalted) (h : SameArchitecture (State.advance^[t.metrics.isaRetired + 1] s) t)
  | budget (m : State) (ht : t = m.setStatus .notHalted) (h : Tandem (State.advance^[m.metrics.isaRetired] s) m)

theorem State.pipelineTurns_ended {n : Nat} (h : m.status ≠ .running) : State.pipelineTurns n m = m := by
  cases n with
  | zero => rfl
  | succ n => rw [State.pipelineTurns, if_neg h]

theorem Tandem.pipelineTurns {n : Nat} (h : Tandem (State.advance^[m.metrics.isaRetired] s) m) (hinv : m.Inv)
    (hinit : m.cfg.initCounter < 2 ^ m.cfg.counterBits) (hend : (State.pipelineTurns n m).status ≠ .running) :
    RunEnd s (State.pipelineTurns n m) := by
  induction n generalizing m with
  | zero => exact absurd h.inStep.running' hend
  | succ n ih =>
    rw [State.pipelineTurns, if_pos h.inStep.running'] at hend ⊢
    by_cases hb : m.metrics.cycles < m.cfg.budget
    · have hturn : m.pipelineTurn = m.cycle := if_pos hb
      rw [hturn] at hend ⊢
      have hadd (k : Nat) : State.advance^[k] (State.advance^[m.metrics.isaRetired] s) =
          State.advance^[m.metrics.isaRetired + k] s := by rw [Nat.add_comm, Function.iterate_add_apply]
      obtain ⟨k, hcount, htandem | ⟨hended, harch⟩⟩ := h.cycle hinv hinit hb
      · rw [hadd, ← hcount] at htandem
        exact ih htandem (hinv.cycle hinit hb) (by rwa [(m.cycle_sameSetup .reference).cfg]) hend
      · rw [hadd, ← Nat.add_assoc, ← hcount] at harch
        rw [State.pipelineTurns_ended hended]
        exact .ended (State.cycle_status (by simp [h.inStep.running']) .reference) harch
    · have hturn : m.pipelineTurn = m.setStatus .notHalted := if_neg hb
      rw [hturn, State.pipelineTurns_ended (by simp)]
      exact .budget m rfl h

end Run

/-- Settles O60: the tandem invariant holds at the launch, every cycle keeps it, and at the end of the run it gives the
reference's state. -/
theorem tandemEquivalence : Obligations.TandemEquivalence := by
  intro c p given image s hlaunch t n
  have hinv := inv_of_launch hlaunch
  have htandem := tandem_of_launch hlaunch
  obtain ⟨hvalid, hs⟩ := launch_cases hlaunch
  have hzero : s.metrics.isaRetired = 0 := by rw [hs]; rfl
  have hinit : s.cfg.initCounter < 2 ^ s.cfg.counterBits := by
    rw [hs]
    exact initCounter_lt_of_valid hvalid
  have hends := (theBudgetEndsEveryRun.1 s htandem.inStep.running hinv.budget).1
  have hrun : RunEnd s t := Tandem.pipelineTurns (by rwa [hzero]) hinv hinit hends
  rcases hrun with ⟨hst, harch⟩ | ⟨m, ht, hm⟩
  · refine ⟨fun _ => ?_, fun h => absurd h hst⟩
    have ⟨_, _, _, hstatus⟩ := harch
    have hended : (State.advance^[n + 1] s).status ≠ .running := by
      rw [← hstatus]
      exact hends
    rwa [State.referenceRun_eq, if_neg hended]
  · refine ⟨fun h => absurd (by rw [ht]; rfl) h, fun _ => ?_⟩
    have hn : n = m.metrics.isaRetired := by simp [n, ht]
    rw [State.referenceRun_eq, hn, if_pos hm.inStep.running, ht]
    exact ⟨rfl, hm.inStep.regs, hm.inStep.out, hm.inStep.mem⟩

end Sys2Proof.Machine
